-- ==== Sys2Proof/Word.lean ====
section
/-! DEFINITION. The word types of the e-plunk link block: a byte, a bus transaction word, a tick value.
Every register is one byte (R21), a bus transaction is 17 bits (R91), a tick value has `W_TICK = 32` bits (R12). -/

namespace Sys2Proof

/-- A byte: an unsigned value 0 to 255, bit 0 the least significant (R15). -/
abbrev Byte := BitVec 8

/-- One host bus transaction in format `BUS17` (R91). -/
abbrev BusWord := BitVec 17

/-- A tick value, `W_TICK = 32` bits; `+` and `-` wrap (R12, R16, R35). -/
abbrev Tick := BitVec 32

end Sys2Proof
end

