-- ==== Sys2Proof/Syntax.lean ====
section
/-! DEFINITION. The instructions: one constructor per mnemonic of spec/opcode_table.json (R3, R93, R96, R100). -/

namespace Sys2Proof

/-- The block's instructions. The seven `ILLEGAL` rows of the table are one instruction, whose opcode is its
operand (R93, R96; log entry 8). -/
inductive Instr
  /-- `RD addr` (R62). `data` is the field the block ignores, "written as 0x00 by convention" (R91). -/
  | rd (addr data : Byte)
  /-- `WR addr, data` (R63). -/
  | wr (addr data : Byte)
  /-- `NOP`, opcode 0x00 (R111). -/
  | nop
  /-- `CRC8`, opcode 0x01 (R112). -/
  | crc8
  /-- `CIPHER`, opcode 0x02 (R123). -/
  | cipher
  /-- `ENCODE`, opcode 0x03 (R136). -/
  | encode
  /-- `DECODE`, opcode 0x04 (R142). -/
  | decode
  /-- `ENCMSG`, opcode 0x05 (R161). -/
  | encmsg
  /-- `DECMSG`, opcode 0x06 (R165). -/
  | decmsg
  /-- `REPORT`, opcode 0x07 (R216). -/
  | report
  /-- `HALT`, opcode 0x08 (R231). -/
  | halt
  /-- The illegal command, opcodes 0x09 to 0xFF (R96). -/
  | illegal (op : Byte)
deriving DecidableEq, Repr

end Sys2Proof
end

