-- ==== Sys2Proof/WellFormed.lean ====
section
/-! DEFINITION. Which terms of `Instr` are instructions of the block: every one, but for an illegal command whose
opcode is an assigned one. -/

namespace Sys2Proof

/-- An illegal command carries an unassigned opcode, 0x09 to 0xFF (R93, R96); no other field has a constraint, since
all 256 addresses and data bytes are legal (R95). -/
def Instr.wf : Instr → Bool
  | .rd _ _ => true
  | .wr _ _ => true
  | .nop => true
  | .crc8 => true
  | .cipher => true
  | .encode => true
  | .decode => true
  | .encmsg => true
  | .decmsg => true
  | .report => true
  | .halt => true
  | .illegal op => decide (0x09 ≤ op.toNat)

end Sys2Proof
end

