-- ==== Sys2Proof/Decode.lean ====
section
/-! DEFINITION. The two formats `BUS17` and `CMD8` (R90 to R92), the decoder and, from the same tables, the
encoder. -/

namespace Sys2Proof

/-- One instruction in its format (R90): a whole bus transaction, or the data byte of a write to `CMD`. -/
inductive Code
  | bus17 (w : BusWord)
  | cmd8 (op : Byte)
deriving DecidableEq, Repr

/-- Why a number is no instruction word. -/
inductive DecodeError
  /-- No format has this many bits. -/
  | noSuchFormat
  /-- A one-byte word with a bit above bit 7. -/
  | bitAboveCmd8
  /-- A bus transaction word with a bit above bit 16. -/
  | bitAboveBus17
deriving DecidableEq, Repr

/-- `BUS17`: bit 16 is `rw`, bits 15:8 `addr`, bits 7:0 `data` (R91). -/
def decodeBus17 (w : BusWord) : Instr :=
  if w.getLsbD 16 then .wr (w.extractLsb' 8 8) (w.extractLsb' 0 8)
  else .rd (w.extractLsb' 8 8) (w.extractLsb' 0 8)

/-- `CMD8`: the opcode map of R93; all eight bits are compared, and 0x09 to 0xFF are the illegal command (R96). -/
def decodeCmd8 (op : Byte) : Instr :=
  match op.toNat with
  | 0x00 => .nop
  | 0x01 => .crc8
  | 0x02 => .cipher
  | 0x03 => .encode
  | 0x04 => .decode
  | 0x05 => .encmsg
  | 0x06 => .decmsg
  | 0x07 => .report
  | 0x08 => .halt
  | _ => .illegal op

/-- The instruction a word is, in its format. -/
def decode : Code → Instr
  | .bus17 w => decodeBus17 w
  | .cmd8 op => decodeCmd8 op

/-- The `BUS17` word with the given fields: `rw` weighs `2^16`, `addr` `2^8` (R91). -/
def busFields (rw : Nat) (addr data : Byte) : BusWord := BitVec.ofNat 17 (rw * 0x10000 + addr.toNat * 0x100 + data.toNat)

/-- The word of an instruction in the format the opcode table gives it (R91, R93). -/
def encode : Instr → Code
  | .rd addr data => .bus17 (busFields 0 addr data)
  | .wr addr data => .bus17 (busFields 1 addr data)
  | .nop => .cmd8 0x00#8
  | .crc8 => .cmd8 0x01#8
  | .cipher => .cmd8 0x02#8
  | .encode => .cmd8 0x03#8
  | .decode => .cmd8 0x04#8
  | .encmsg => .cmd8 0x05#8
  | .decmsg => .cmd8 0x06#8
  | .report => .cmd8 0x07#8
  | .halt => .cmd8 0x08#8
  | .illegal op => .cmd8 op

/-- The bus transaction that carries a word: a command is the `BUS17` word `0x100 ++ op` (R90, R93). -/
def busWordOf : Code → BusWord
  | .bus17 w => w
  | .cmd8 op => busFields 1 0x00#8 op

/-- The word of `nbits` bits whose value is `w`: up to one byte is `CMD8`, more is `BUS17` (whose 17 bits fill three
bytes); anything else is rejected by name (log entry 7). -/
def readCode (nbits w : Nat) : Except DecodeError Code :=
  if nbits = 0 then .error .noSuchFormat
  else if nbits ≤ 8 then
    if w < 2 ^ 8 then .ok (.cmd8 (BitVec.ofNat 8 w)) else .error .bitAboveCmd8
  else if nbits ≤ 24 then
    if w < 2 ^ 17 then .ok (.bus17 (BitVec.ofNat 17 w)) else .error .bitAboveBus17
  else .error .noSuchFormat

/-- The instruction of a row of spec/opcode_table.json: `nbits` bits of value `w`. -/
def decodeTableWord (nbits w : Nat) : Option Instr :=
  match readCode nbits w with
  | .ok c => some (decode c)
  | .error _ => none

/-- The bus transaction that brings the same word to the block; a value out of its format's range is cut to it. -/
def tableBusWord (nbits w : Nat) : BusWord :=
  if nbits ≤ 8 then busWordOf (.cmd8 (BitVec.ofNat 8 w)) else BitVec.ofNat 17 w

end Sys2Proof
end

