-- ==== Sys2Proof/Config.lean ====
section
/-! DEFINITION. The parameters of a block instance (R12), the constraints the spec puts on them (R13), its test keys
(R14), and the free values: the opaque constants of one unnamed instance and of what reset leaves unspecified. -/

namespace Sys2Proof

/-- `MTU`: the largest frame in bytes, trailer included; fixed (R12). It is also the size of `BUF` (R34, R60). -/
abbrev Config.mtu : Nat := 32

/-- `SCHEMA`: which of the two `ReplyStatus` layouts is built in (R12, R157). -/
inductive Schema
  | narrow
  | extended
deriving DecidableEq, Repr, Inhabited

/-- `RS_SIZE`: the bytes of `ReplyStatus` fields (R12, R158, R159). -/
def Schema.rsSize : Schema → Nat
  | .narrow => 8
  | .extended => 20

/-- The parameters of R12 that are not fixed numbers. The bit patterns are naturals whose bit `s` is the level shown
at step `s`. -/
structure Params where
  /-- `KEY[0..K-1]`. -/
  key : List Byte
  /-- `SCHEMA`. -/
  schema : Schema
  /-- `STEP_DIV`: tick events per blink step. -/
  stepDiv : Nat
  /-- `PRE_LEN`: steps of the preamble. -/
  preLen : Nat
  /-- `PRE_PATTERN`: bit `s` is shown at step `s`. -/
  prePattern : Nat
  /-- `BIT_STEPS`: sub-steps per code bit. -/
  bitSteps : Nat
  /-- `MASK0`: the duty mask of a 0 bit. -/
  mask0 : Nat
  /-- `MASK1`: the duty mask of a 1 bit. -/
  mask1 : Nat
deriving DecidableEq, Repr

/-- `RS_SIZE` of an instance. -/
def Params.rsSize (p : Params) : Nat := p.schema.rsSize

/-- `TOTAL_STEPS = PRE_LEN + 8 * BIT_STEPS` (R12). -/
def Params.totalSteps (p : Params) : Nat := p.preLen + 8 * p.bitSteps

/-- The tick events that show one whole pattern, `TOTAL_STEPS * STEP_DIV` (R221). -/
def Params.patternTicks (p : Params) : Nat := p.totalSteps * p.stepDiv

/-- The constraints of R13, "which a model states as premises". -/
structure Params.Valid (p : Params) : Prop where
  /-- `K >= 1`. -/
  key_nonempty : 1 ≤ p.key.length
  /-- `STEP_DIV >= 1`. -/
  stepDiv_pos : 1 ≤ p.stepDiv
  /-- `PRE_LEN >= 1`. -/
  preLen_pos : 1 ≤ p.preLen
  /-- `BIT_STEPS >= 2`. -/
  bitSteps_two : 2 ≤ p.bitSteps
  /-- `PRE_PATTERN < 2^PRE_LEN`. -/
  prePattern_lt : p.prePattern < 2 ^ p.preLen
  /-- `MASK0 < 2^BIT_STEPS`. -/
  mask0_lt : p.mask0 < 2 ^ p.bitSteps
  /-- `MASK1 < 2^BIT_STEPS`. -/
  mask1_lt : p.mask1 < 2 ^ p.bitSteps
  /-- Each mask is a run of ones from bit 0, `MASK0` with strictly fewer ones than `MASK1`. -/
  pulses : ∃ a b : Nat, a < b ∧ p.mask0 = 2 ^ a - 1 ∧ p.mask1 = 2 ^ b - 1
  /-- Bit 0 of `MASK0` is set. -/
  mask0_low : p.mask0.testBit 0 = true
  /-- Bit 0 of `MASK1` is set. -/
  mask1_low : p.mask1.testBit 0 = true
  /-- Bit `BIT_STEPS-1` of `MASK0` is clear. -/
  mask0_high : p.mask0.testBit (p.bitSteps - 1) = false
  /-- Bit `BIT_STEPS-1` of `MASK1` is clear. -/
  mask1_high : p.mask1.testBit (p.bitSteps - 1) = false
  /-- `TOTAL_STEPS * STEP_DIV < 2^W_TICK`. -/
  pattern_fits : p.patternTicks < 2 ^ 32

/-- An instance with the blink constants at the defaults of R12. -/
def Params.withDefaults (key : List Byte) (schema : Schema) : Params where
  key := key
  schema := schema
  stepDiv := 100
  preLen := 6
  prePattern := 0b010101
  bitSteps := 4
  mask0 := 0b0001
  mask1 := 0b0111

/-- `TESTKEY5`, for vectors only (R14). -/
def Config.testKey5 : List Byte := [0xA5#8, 0x3C#8, 0x96#8, 0x0F#8, 0x5A#8]

/-- `TESTKEY8`, the ASCII bytes of `e-plunk!`, for vectors only (R14). -/
def Config.testKey8 : List Byte :=
  [0x65#8, 0x2D#8, 0x70#8, 0x6C#8, 0x75#8, 0x6E#8, 0x6B#8, 0x21#8]

/-- FREE VALUE. The first byte of the key of the instance `State.reset` is made of (log entry 1): no value of it can
be proved. -/
opaque Config.keyHead : Byte

/-- FREE VALUE. The bytes after the first of that key, any number of them (log entry 1). -/
opaque Config.keyTail : List Byte

/-- FREE VALUE. The schema of that instance (log entry 1). -/
opaque Config.schema : Schema

/-- FREE VALUE. The byte the `n`-th reset leaves at bus address `a` of a register whose reset value R40 calls
unspecified, "drawn freely at the reset event" (log entry 2). -/
opaque Config.resetByte (n : Nat) (a : Byte) : Byte

/-- DESIGN CHOICE (log entry 1): the instance `State.reset` is made of. The key and the schema are free, `K >= 1`
holds by its form, and the blink constants have the defaults of R12. -/
def Config.params : Params := Params.withDefaults (Config.keyHead :: Config.keyTail) Config.schema

end Sys2Proof
end

