-- ==== Sys2Proof/Machine/State.lean ====
section
/-! DEFINITION. The state of a block instance (R20), the events offered to it (R10, R11), the reasons a step can
stop, and the state after reset (R40). -/

namespace Sys2Proof.Machine

/-- `RESULT.CODE` (R25, R250). Codes 5 to 7 "never occur" and have no constructor (log entry 15). -/
inductive ResultCode
  /-- 0: success. -/
  | ok
  /-- 1: a length operand out of range. -/
  | lengthError
  /-- 2: the recomputed checksum differs from the trailer. -/
  | integrityFailure
  /-- 3: no message variant matches. -/
  | protocolFailure
  /-- 4: an unassigned opcode. -/
  | illegalCommand
deriving DecidableEq, Repr

/-- One atomic event (R11, R19): a bus transaction of the host, a tick event, a reset event. -/
inductive Event
  | host (w : BusWord)
  | tick
  | reset
deriving DecidableEq, Repr

/-- What the inputs of the block carry in one clock cycle (R61): at most one bus access, since `bus_we` and `bus_re`
are never both high. -/
structure Cycle where
  rst : Bool
  tick : Bool
  access : Option BusWord
deriving DecidableEq, Repr

/-- The bytes that R40 leaves unspecified after a reset event. -/
structure ResetDraw where
  msgId : Byte
  pwmValue : Byte
  rs : Vector Byte 20
  buf : Vector Byte 32
deriving DecidableEq, Repr

/-- The state. The first group is the block's (R20); `params` is constant (R12); the last three are the model's own:
the events to come, the byte of the latest read, the number of resets so far (log entries 1, 2, 3, 5). -/
structure State where
  /-- `ARG` (R23). -/
  arg : Byte
  /-- `LEN` (R24). -/
  len : Byte
  /-- `RESULT` (R25). -/
  result : ResultCode
  /-- `CRC` (R26). -/
  crc : Byte
  /-- `ANN_STATUS.ACTIVE` (R27). -/
  active : Bool
  /-- `ANN_STATUS.STARTED` (R27). -/
  started : Bool
  /-- `ANN_STATUS.HALTED` (R27). -/
  halted : Bool
  /-- `ANN_STATUS.LED`, which the output pin shows (R27, R37). -/
  led : Bool
  /-- `ANN_CODE` (R28). -/
  annCode : Byte
  /-- `HALT_CODE` (R29). -/
  haltCode : Byte
  /-- `MSG_ID` (R31). -/
  msgId : Byte
  /-- `PWM_VALUE` (R32). -/
  pwmValue : Byte
  /-- `RS[0..19]` (R33). -/
  rs : Vector Byte 20
  /-- `BUF[0..31]` (R34). -/
  buf : Vector Byte 32
  /-- `TICKCNT` (R35). -/
  tickCnt : Tick
  /-- `START_TICK` (R36). -/
  startTick : Tick
  /-- The parameters of the instance (R12): no step writes them. -/
  params : Params
  /-- The events offered and not yet performed, oldest first. -/
  inputs : List Event
  /-- The byte the latest `RD` returned on `bus_rdata` (R61, R62); `none` before the first. -/
  rdata : Option Byte
  /-- How many reset events there have been, power-on included: which free draw the next one takes. -/
  resets : Nat
deriving DecidableEq, Repr

/-- Nothing stops the block: a command's failure is a value of `RESULT` (R250 to R258), so there is no fault
(log entry 16). -/
inductive Fault
deriving DecidableEq, Repr

/-- Why a step has no meaning. -/
inductive Refusal
  /-- An instruction without a meaning in this model, by its mnemonic. Raised by no arm of `exec`: every instruction
  of the table has its meaning. Safe. -/
  | notModelled (mnemonic : String)
deriving DecidableEq, Repr

/-- The bytes the `n`-th reset event leaves, each a free value (R40, R281; log entry 2). That two instances at their `n`-th
reset share the draw is the model's choice: R72 couples no two blocks (log entry 24). -/
def resetDraw (n : Nat) : ResetDraw where
  msgId := Config.resetByte n 0x10#8
  pwmValue := Config.resetByte n 0x11#8
  rs := Vector.ofFn fun j => Config.resetByte n (BitVec.ofNat 8 (0x20 + j.val))
  buf := Vector.ofFn fun i => Config.resetByte n (BitVec.ofNat 8 (0x40 + i.val))

/-- The state after reset of an instance with parameters `p`, when the draw of the unspecified bytes is `d` (R40). -/
def State.resetOf (p : Params) (d : ResetDraw) : State where
  arg := 0x00#8
  len := 0x00#8
  result := .ok
  crc := 0x00#8
  active := false
  started := false
  halted := false
  led := false
  annCode := 0x00#8
  haltCode := 0x00#8
  msgId := d.msgId
  pwmValue := d.pwmValue
  rs := d.rs
  buf := d.buf
  tickCnt := 0#32
  startTick := 0#32
  params := p
  inputs := []
  rdata := none
  resets := 1

/-- The machine right after power-on (R40, R281). -/
def State.reset : State := State.resetOf Config.params (resetDraw 0)

end Sys2Proof.Machine
end

