-- ==== Sys2Proof/Machine/Ops.lean ====
section
/-! DEFINITION. The named operations over registers and the buffer; raising a failure, the block's one exception
mechanism (R17, R250); the write lock of the halted state (R232); the reset event (R281); the events of a clock cycle
(R61). -/

namespace Sys2Proof.Machine

/-! ## Register writes -/

/-- `ARG <- v`. -/
def State.setArg (s : State) (v : Byte) : State := { s with arg := v }
/-- `LEN <- v`. -/
def State.setLen (s : State) (v : Byte) : State := { s with len := v }
/-- `RESULT <- c`. -/
def State.setResult (s : State) (c : ResultCode) : State := { s with result := c }
/-- `CRC <- v`. -/
def State.setCrc (s : State) (v : Byte) : State := { s with crc := v }
/-- `MSG_ID <- v`. -/
def State.setMsgId (s : State) (v : Byte) : State := { s with msgId := v }
/-- `PWM_VALUE <- v`. -/
def State.setPwmValue (s : State) (v : Byte) : State := { s with pwmValue := v }
/-- `RS[0..19] <- v`. -/
def State.setRs (s : State) (v : Vector Byte 20) : State := { s with rs := v }
/-- `BUF[0..31] <- v`. -/
def State.setBuf (s : State) (v : Vector Byte 32) : State := { s with buf := v }
/-- `HALT_CODE <- v`. -/
def State.setHaltCode (s : State) (v : Byte) : State := { s with haltCode := v }
/-- `HALTED <- 1`. -/
def State.setHalted (s : State) : State := { s with halted := true }
/-- `TICKCNT <- v`. -/
def State.setTickCnt (s : State) (v : Tick) : State := { s with tickCnt := v }
/-- `START_TICK <- v`, `STARTED <- 1` (R217). -/
def State.setStart (s : State) (v : Tick) : State := { s with startTick := v, started := true }
/-- `LED <- v`. -/
def State.setLed (s : State) (v : Bool) : State := { s with led := v }
/-- `ACTIVE <- 1`, `STARTED <- 0`, `ANN_CODE <- c`: a report is accepted (R215). -/
def State.accept (s : State) (c : Byte) : State :=
  { s with active := true, started := false, annCode := c }
/-- `ACTIVE <- 0`, `STARTED <- 0`, `LED <- 0`: an announcement completes (R221). -/
def State.complete (s : State) : State :=
  { s with active := false, started := false, led := false }
/-- The byte an `RD` returns (R62). -/
def State.setRdata (s : State) (v : Byte) : State := { s with rdata := some v }
/-- The events still to be performed. -/
def State.setInputs (s : State) (es : List Event) : State := { s with inputs := es }

/-! ## The frame buffer -/

/-- `BUF[i]`; an index of 32 or more is used by no rule (R17). -/
def bufAt (b : Vector Byte 32) (i : Nat) : Byte := b[i]?.getD 0x00#8

/-- `BUF[i] <- v`. -/
def bufSet (b : Vector Byte 32) (i : Nat) (v : Byte) : Vector Byte 32 := b.setIfInBounds i v

/-- `BUF[0..n-1]`, the empty string when `n = 0` (R17). -/
def bufTake (b : Vector Byte 32) (n : Nat) : List Byte := b.toList.take n

/-- `RS[j]`; an index of 20 or more is used by no rule (R17). -/
def rsAt (r : Vector Byte 20) (j : Nat) : Byte := r[j]?.getD 0x00#8

/-! ## Raising a failure, the halted lock, reset -/

/-- `raise X` (R17, R250): `RESULT <- code(X)` and the end of the command. Nothing is saved, no mode changes and
control goes nowhere (R257), so there is no return from it (R258). -/
def State.raise (s : State) (c : ResultCode) : State := s.setResult c

/-- A host write, of a register or of a command: while `HALTED = 1` it is ignored (R63, R232, R253). -/
def State.hostWrite (s : State) (f : State → State) : State := bif s.halted then s else f s

/-- A reset event (R281): the writes of R40, the unspecified bytes drawn afresh; the parameters stay (R12), and so do
the events to come and the record of the latest read. -/
def State.resetEvent (s : State) : State :=
  { State.resetOf s.params (resetDraw s.resets) with
    inputs := s.inputs, rdata := s.rdata, resets := s.resets + 1 }

/-! ## Events of a cycle -/

/-- The events a clock cycle contributes, in order (R61, R254, R282): a reset alone; otherwise the tick event, then
the bus access. -/
def Cycle.events (c : Cycle) : List Event :=
  if c.rst then [.reset]
  else (if c.tick then [.tick] else []) ++
    match c.access with
    | some w => [.host w]
    | none => []

/-- The events of a cycle are offered after those already offered. -/
def State.offer (s : State) (c : Cycle) : State := s.setInputs (s.inputs ++ c.events)

/-- An instruction word becomes the next event (log entry 6). -/
def State.placeWord (s : State) (nbits w : Nat) : State :=
  s.setInputs (.host (tableBusWord nbits w) :: s.inputs)

end Sys2Proof.Machine
end

