-- ==== Sys2Proof/Machine/Flags.lean ====
section
/-! DEFINITION. The status bytes as the bus shows them: `RESULT` (R25) and `ANN_STATUS` (R27). -/

namespace Sys2Proof.Machine

/-- `RESULT`: `CODE` in bits 2:0, bits 7:3 zero (R25, R250). -/
def ResultCode.toByte : ResultCode → Byte
  | .ok => 0#8
  | .lengthError => 1#8
  | .integrityFailure => 2#8
  | .protocolFailure => 3#8
  | .illegalCommand => 4#8

/-- `ANN_STATUS`: bit 0 `ACTIVE`, bit 1 `STARTED`, bit 2 `HALTED`, bit 3 `LED`, bits 7:4 zero (R27). -/
def State.annStatus (s : State) : Byte :=
  (BitVec.ofBool s.active).zeroExtend 8 ||| (BitVec.ofBool s.started).zeroExtend 8 <<< 1 |||
    (BitVec.ofBool s.halted).zeroExtend 8 <<< 2 ||| (BitVec.ofBool s.led).zeroExtend 8 <<< 3

end Sys2Proof.Machine
end

