-- ==== Sys2Proof/Machine/Operands.lean ====
section
/-! DEFINITION. The register map (R21): what stands at a bus address, what a read of it returns (R62), what a write
to it stores (R63). The only operand form is the absolute 8-bit address (R100). -/

namespace Sys2Proof.Machine

/-- What stands at a bus address (R21). -/
inductive Reg
  | cmd
  | arg
  | len
  | result
  | crc
  | annStatus
  | annCode
  | haltCode
  | msgId
  | pwmValue
  | rs (j : Fin 20)
  | buf (i : Fin 32)
  | reserved
deriving DecidableEq, Repr

/-- The map of R21. -/
def regOf (a : Byte) : Reg :=
  if a.toNat = 0x00 then .cmd
  else if a.toNat = 0x01 then .arg
  else if a.toNat = 0x02 then .len
  else if a.toNat = 0x03 then .result
  else if a.toNat = 0x04 then .crc
  else if a.toNat = 0x05 then .annStatus
  else if a.toNat = 0x06 then .annCode
  else if a.toNat = 0x07 then .haltCode
  else if a.toNat = 0x10 then .msgId
  else if a.toNat = 0x11 then .pwmValue
  else if h : 0x20 ≤ a.toNat ∧ a.toNat < 0x20 + 20 then .rs ⟨a.toNat - 0x20, by omega⟩
  else if h : 0x40 ≤ a.toNat ∧ a.toNat < 0x40 + 32 then .buf ⟨a.toNat - 0x40, by omega⟩
  else .reserved

/-- The column `Access` of R21 as far as a write is concerned: `true` for the `RW` registers. -/
def Reg.writable : Reg → Bool
  | .arg => true
  | .len => true
  | .msgId => true
  | .pwmValue => true
  | .rs _ => true
  | .buf _ => true
  | .cmd => false
  | .result => false
  | .crc => false
  | .annStatus => false
  | .annCode => false
  | .haltCode => false
  | .reserved => false

/-- What a read of a register returns: 0x00 for `CMD` and a reserved address (R62). -/
def State.readReg (s : State) : Reg → Byte
  | .cmd => 0x00#8
  | .arg => s.arg
  | .len => s.len
  | .result => s.result.toByte
  | .crc => s.crc
  | .annStatus => s.annStatus
  | .annCode => s.annCode
  | .haltCode => s.haltCode
  | .msgId => s.msgId
  | .pwmValue => s.pwmValue
  | .rs j => s.rs[j.val]
  | .buf i => s.buf[i.val]
  | .reserved => 0x00#8

/-- What a write stores: an `RW` register takes all 8 bits, with no legality check and no other effect; `R` and
reserved ignore the write (R63). `CMD` has no storage (R22). -/
def State.storeReg (s : State) (r : Reg) (v : Byte) : State :=
  match r with
  | .arg => s.setArg v
  | .len => s.setLen v
  | .msgId => s.setMsgId v
  | .pwmValue => s.setPwmValue v
  | .rs j => s.setRs (s.rs.set j.val v)
  | .buf i => s.setBuf (s.buf.set i.val v)
  | .cmd => s
  | .result => s
  | .crc => s
  | .annStatus => s
  | .annCode => s
  | .haltCode => s
  | .reserved => s

/-- The byte an `RD` of address `a` returns (R62). -/
def State.busRead (s : State) (a : Byte) : Byte := s.readReg (regOf a)

end Sys2Proof.Machine
end

