-- ==== Sys2Proof/Machine/Annunciator.lean ====
section
/-! DEFINITION. The Fault Annunciator: the blink pattern (R213), `report` (R215), the tick event (R214) and the
commands `REPORT` (R216) and `HALT` (R231). -/

namespace Sys2Proof.Machine

/-- The fault codes the spec names (R211); the block accepts and plays every byte. -/
inductive FaultCode
  | hwInit
  | integrity
  | unknownCommand
  | ioFailure
  | safetyTimeout
deriving DecidableEq, Repr

/-- The numbers of R211. -/
def FaultCode.toByte : FaultCode → Byte
  | .hwInit => 0x01#8
  | .integrity => 0x02#8
  | .unknownCommand => 0x03#8
  | .ioFailure => 0x04#8
  | .safetyTimeout => 0x05#8

/-- `pattern(code, s)`: the pin level at step `s` (R213, R219, R220). -/
def pattern (p : Params) (code : Byte) (step : Nat) : Bool :=
  if step < p.preLen then p.prePattern.testBit step
  else
    let q := step - p.preLen
    if code.getLsbD (q / p.bitSteps) then p.mask1.testBit (q % p.bitSteps) else p.mask0.testBit (q % p.bitSteps)

/-- `report(code)` (R215): accepted when `Idle`, silently dropped when `Announcing`. -/
def State.report (s : State) (code : Byte) : State := bif s.active then s else s.accept code

/-- The first tick event after a report was accepted records the start tick (R217). -/
def State.latchStart (s : State) : State := bif s.started then s else s.setStart s.tickCnt

/-- `elapsed = (TICKCNT - START_TICK) mod 2^W_TICK` (R218, R227). -/
def State.elapsed (s : State) : Nat := (s.tickCnt - s.startTick).toNat

/-- The step of the pattern that is due, `elapsed div STEP_DIV` (R218). -/
def State.stepIndex (s : State) : Nat := s.elapsed / s.params.stepDiv

/-- Show the step that is due, or complete (R214, R221). -/
def State.playStep (s : State) : State :=
  if s.stepIndex < s.params.totalSteps then s.setLed (pattern s.params s.annCode s.stepIndex) else s.complete

/-- A halted block that is `Idle` reports `HALT_CODE` (R233). -/
def State.rearm (s : State) : State := bif s.halted && !s.active then s.accept s.haltCode else s

/-- A tick event (R214): count; then advance the announcement, or drive the pin dark when `Idle` (R223); then re-arm a
halted block. -/
def State.tickEvent (s : State) : State :=
  let c := s.setTickCnt (s.tickCnt + 1#32)
  State.rearm (bif c.active then c.latchStart.playStep else c.setLed false)

/-- `REPORT` (R216): `RESULT` is `OK` whether the report was accepted or dropped. -/
def State.doReport (s : State) : State := (s.report s.arg).setResult .ok

/-- `HALT` (R231). -/
def State.doHalt (s : State) : State := (((s.setHaltCode s.arg).report s.arg).setHalted).setResult .ok

/-- The meaning of `REPORT`. -/
def execReport (s : State) : Host.Outcome State Fault Refusal := .next (s.hostWrite State.doReport)

/-- The meaning of `HALT`. -/
def execHalt (s : State) : Host.Outcome State Fault Refusal := .next (s.hostWrite State.doHalt)

end Sys2Proof.Machine
end

