-- ==== Sys2Proof/Machine/Cipher.lean ====
section
/-! DEFINITION. The repeating-key XOR cipher, as the loop of R121 and as the mask of R122, and the command `CIPHER`
(R123). -/

namespace Sys2Proof.Machine

/-- `KEY[i mod K]` (R120); the key has at least one byte (R13, log entry 10). -/
def keyAt (key : List Byte) (i : Nat) : Byte := key.getD (i % key.length) 0x00#8

/-- `BUF[j] <- BUF[j] ^ x`. -/
def bufXor (b : Vector Byte 32) (j : Nat) (x : Byte) : Vector Byte 32 := bufSet b j (bufAt b j ^^^ x)

/-- `cipher(S)` (R121): `for i in 0 .. max(K, S) - 1: BUF[i mod S] <- BUF[i mod S] ^ KEY[i mod K]`. -/
def cipher (key : List Byte) (size : Nat) (b : Vector Byte 32) : Vector Byte 32 :=
  (List.range (max key.length size)).foldl (fun b i => bufXor b (i % size) (keyAt key i)) b

/-- `cipher_mask(S)[j]` (R122): the XOR of `KEY[i mod K]` over all `i < max(K, S)` with `i mod S = j`. -/
def cipherMask (key : List Byte) (size j : Nat) : Byte :=
  (List.range (max key.length size)).foldl
    (fun x i => if i % size = j then x ^^^ keyAt key i else x) 0x00#8

/-- `CIPHER` (R123): `LEN = 0` or `LEN > 32` raises `LENGTH_ERROR`. -/
def State.doCipher (s : State) : State :=
  if s.len.toNat < 1 ∨ s.len.toNat > Config.mtu then s.raise .lengthError
  else (s.setBuf (cipher s.params.key s.len.toNat s.buf)).setResult .ok

/-- The meaning of `CIPHER`. -/
def execCipher (s : State) : Host.Outcome State Fault Refusal := .next (s.hostWrite State.doCipher)

end Sys2Proof.Machine
end

