-- ==== Sys2Proof/Machine/Frame.lean ====
section
/-! DEFINITION. The frame builder and parser: the commands `ENCODE` (R136 to R138) and `DECODE` (R142 to R144). The
cipher covers the trailer (R125, conflict C1). -/

namespace Sys2Proof.Machine

/-- `ENCODE` (R136): `LEN + 1 > 32` raises `LENGTH_ERROR` before any write (R137); otherwise the trailer is appended,
payload and trailer are ciphered in place, `LEN` becomes the frame length. -/
def State.doEncode (s : State) : State :=
  if s.len.toNat + 1 > Config.mtu then s.raise .lengthError
  else
    let t := crc8 (bufTake s.buf s.len.toNat)
    (((s.setBuf (cipher s.params.key (s.len.toNat + 1) (bufSet s.buf s.len.toNat t))).setCrc t).setLen
      (s.len + 1#8)).setResult .ok

/-- `DECODE` (R142): `LEN = 0` or `LEN > 32` raises `LENGTH_ERROR` before any write (R143); otherwise the frame is
deciphered in place, the checksum of all bytes but the last is compared with the last; a mismatch leaves `LEN = 0` and
`INTEGRITY_FAILURE` (R144). -/
def State.doDecode (s : State) : State :=
  if s.len.toNat < 1 ∨ s.len.toNat > Config.mtu then s.raise .lengthError
  else
    let b := cipher s.params.key s.len.toNat s.buf
    let c := crc8 (bufTake b (s.len.toNat - 1))
    let t := (s.setBuf b).setCrc c
    if c = bufAt b (s.len.toNat - 1) then (t.setLen (s.len - 1#8)).setResult .ok
    else (t.setLen 0x00#8).raise .integrityFailure

/-- The meaning of `ENCODE`. -/
def execEncode (s : State) : Host.Outcome State Fault Refusal := .next (s.hostWrite State.doEncode)

/-- The meaning of `DECODE`. -/
def execDecode (s : State) : Host.Outcome State Fault Refusal := .next (s.hostWrite State.doDecode)

end Sys2Proof.Machine
end

