-- ==== Sys2Proof/Machine/Message.lean ====
section
/-! DEFINITION. The message codec: the commands `ENCMSG` (R161) and `DECMSG` (R165), and the reading of the
`ReplyStatus` fields that R158, R159 and R64 give the host. -/

namespace Sys2Proof.Machine

/-- Discriminant of `SetPwm` (R155). -/
def idSetPwm : Byte := 0x01#8

/-- Discriminant of `ReplyStatus` (R155). -/
def idReplyStatus : Byte := 0x02#8

/-- The wire size of `ReplyStatus`, discriminant included: 9 or 21 (R157, R160, C8). -/
def replySize (p : Params) : Nat := 1 + p.rsSize

/-- The buffer with a `ReplyStatus` payload: 0x02, then `RS[0..RS_SIZE-1]`; the bytes beyond stay (R161). -/
def putReply (p : Params) (rs : Vector Byte 20) (b : Vector Byte 32) : Vector Byte 32 :=
  Vector.ofFn fun i =>
    if i.val = 0 then idReplyStatus
    else if i.val ≤ p.rsSize then rsAt rs (i.val - 1)
    else b[i.val]

/-- `RS` with the fields of a `ReplyStatus` payload; `RS[j]` for `j >= RS_SIZE` stays (R165, R33). -/
def takeReply (p : Params) (b : Vector Byte 32) (rs : Vector Byte 20) : Vector Byte 20 :=
  Vector.ofFn fun j => if j.val < p.rsSize then bufAt b (1 + j.val) else rs[j.val]

/-- `ENCMSG` (R161): a discriminant that is neither 1 nor 2 raises `PROTOCOL_FAILURE` (R162). -/
def State.doEncmsg (s : State) : State :=
  if s.msgId = idSetPwm then
    ((s.setBuf (bufSet (bufSet s.buf 0 idSetPwm) 1 s.pwmValue)).setLen 2#8).setResult .ok
  else if s.msgId = idReplyStatus then
    ((s.setBuf (putReply s.params s.rs s.buf)).setLen (BitVec.ofNat 8 (replySize s.params))).setResult .ok
  else s.raise .protocolFailure

/-- `DECMSG` (R165): discriminant and wire size must both match, else `PROTOCOL_FAILURE` and nothing else is written
(R166, R167). -/
def State.doDecmsg (s : State) : State :=
  let n := s.len.toNat
  if 1 ≤ n ∧ n ≤ Config.mtu ∧ bufAt s.buf 0 = idSetPwm ∧ n = 2 then
    ((s.setMsgId idSetPwm).setPwmValue (bufAt s.buf 1)).setResult .ok
  else if 1 ≤ n ∧ n ≤ Config.mtu ∧ bufAt s.buf 0 = idReplyStatus ∧ n = replySize s.params then
    ((s.setMsgId idReplyStatus).setRs (takeReply s.params s.buf s.rs)).setResult .ok
  else s.raise .protocolFailure

/-- The meaning of `ENCMSG`. -/
def execEncmsg (s : State) : Host.Outcome State Fault Refusal := .next (s.hostWrite State.doEncmsg)

/-- The meaning of `DECMSG`. -/
def execDecmsg (s : State) : Host.Outcome State Fault Refusal := .next (s.hostWrite State.doDecmsg)

/-! ## How the host reads the fields

No command assembles a multi-byte value (R64, R160): this section is the reading only (log entry 13). -/

/-- The little-endian value of the `w` bytes of `RS` from index `o`: byte `k` weighs `256^k` (R64). -/
def rsField (rs : Vector Byte 20) (o w : Nat) : BitVec (8 * w) :=
  BitVec.ofNat (8 * w) (((rs.toList.drop o).take w).foldr (fun b v => b.toNat + 256 * v) 0)

/-- `RS` with the `w` bytes from index `o` holding `v`, little-endian (R64). -/
def rsPutField (rs : Vector Byte 20) (o w : Nat) (v : BitVec (8 * w)) : Vector Byte 20 :=
  Vector.ofFn fun j =>
    if o ≤ j.val ∧ j.val < o + w then v.extractLsb' (8 * (j.val - o)) 8 else rs[j.val]

/-- The fields of `NARROW`, which are also the first fields of `EXTENDED` (R158, R159). -/
structure ReplyFields where
  /-- Whole degrees Celsius. -/
  temperature : Int
  /-- Tenths of an ampere. -/
  motorCurrent : Int
  /-- Tenths of an ampere. -/
  inputCurrent : Int
  /-- Fraction of full scale, 255 = full. -/
  duty : Nat
  /-- Tenths of a volt. -/
  inputVoltage : Nat
deriving DecidableEq, Repr

/-- The fields `EXTENDED` adds (R159). -/
structure ReplyExtra where
  rpm : Int
  tachometer : Int
  tachometerAbs : Nat
deriving DecidableEq, Repr

/-- The reading of `RS[0..7]` (R158). -/
def replyFields (rs : Vector Byte 20) : ReplyFields where
  temperature := (rsField rs 0 1).toInt
  motorCurrent := (rsField rs 1 2).toInt
  inputCurrent := (rsField rs 3 2).toInt
  duty := (rsField rs 5 1).toNat
  inputVoltage := (rsField rs 6 2).toNat

/-- The reading of `RS[8..19]` under `EXTENDED` (R159). -/
def replyExtra (rs : Vector Byte 20) : ReplyExtra where
  rpm := (rsField rs 8 4).toInt
  tachometer := (rsField rs 12 4).toInt
  tachometerAbs := (rsField rs 16 4).toNat

/-- `as_int8`: the signed reading of a byte, that of `SetPwm.value` (R15, R32, R156). -/
def asInt8 (b : Byte) : Int := if b.toNat < 128 then (b.toNat : Int) else (b.toNat : Int) - 256

end Sys2Proof.Machine
end

