-- ==== Sys2Proof/Machine/Bus.lean ====
section
/-! DEFINITION. The bus primitives `RD` (R62) and `WR` (R63), the command a write to `CMD` starts (R22, R93), and the
illegal command (R96). -/

namespace Sys2Proof.Machine

/-- The illegal command (R96): `RESULT` and nothing else. -/
def State.doIllegal (s : State) : State := s.raise .illegalCommand

/-- The command with opcode `op` (R22, R93, R96). -/
def State.runCommand (s : State) (op : Byte) : State :=
  match op.toNat with
  | 0x00 => s.doNop
  | 0x01 => s.doCrc8
  | 0x02 => s.doCipher
  | 0x03 => s.doEncode
  | 0x04 => s.doDecode
  | 0x05 => s.doEncmsg
  | 0x06 => s.doDecmsg
  | 0x07 => s.doReport
  | 0x08 => s.doHalt
  | _ => s.doIllegal

/-- `RD addr` (R62): the byte goes to the host and no state of the block changes, halted or not. -/
def State.doRd (s : State) (a : Byte) : State := s.setRdata (s.busRead a)

/-- `WR addr, data` on a block that is not halted (R63): a write to `CMD` executes, any other stores or is ignored. -/
def State.doWr (s : State) (a v : Byte) : State :=
  if regOf a = .cmd then s.runCommand v else s.storeReg (regOf a) v

/-- The meaning of `RD`; the data field is ignored (R91). -/
def execRd (addr _data : Byte) (s : State) : Host.Outcome State Fault Refusal := .next (s.doRd addr)

/-- The meaning of `WR`. -/
def execWr (addr data : Byte) (s : State) : Host.Outcome State Fault Refusal :=
  .next (s.hostWrite fun s => s.doWr addr data)

/-- The meaning of the illegal command; every unassigned opcode has the same (R96). -/
def execIllegal (_op : Byte) (s : State) : Host.Outcome State Fault Refusal := .next (s.hostWrite State.doIllegal)

end Sys2Proof.Machine
end

