-- ==== Sys2Proof/Machine/Dispatch.lean ====
section
/-! DEFINITION. One arm per instruction, each a call of its meaning. -/

namespace Sys2Proof.Machine

def exec (i : Instr) (s : State) : Host.Outcome State Fault Refusal :=
  match i with
  | .rd addr data => Sys2Proof.Machine.execRd addr data s
  | .wr addr data => Sys2Proof.Machine.execWr addr data s
  | .nop => Sys2Proof.Machine.execNop s
  | .crc8 => Sys2Proof.Machine.execCrc8 s
  | .cipher => Sys2Proof.Machine.execCipher s
  | .encode => Sys2Proof.Machine.execEncode s
  | .decode => Sys2Proof.Machine.execDecode s
  | .encmsg => Sys2Proof.Machine.execEncmsg s
  | .decmsg => Sys2Proof.Machine.execDecmsg s
  | .report => Sys2Proof.Machine.execReport s
  | .halt => Sys2Proof.Machine.execHalt s
  | .illegal op => Sys2Proof.Machine.execIllegal op s

end Sys2Proof.Machine
end

