-- ==== Sys2Proof/Machine/Step.lean ====
section
/-! DEFINITION. One step: the oldest event offered to the block is performed, whole (R11, R68). -/

namespace Sys2Proof.Machine

/-- What an event does: a bus transaction runs the instruction it decodes to; tick and reset events are no
instructions (R90). -/
def performEvent (e : Event) (s : State) : Host.Outcome State Fault Refusal :=
  match e with
  | .host w => exec (decodeBus17 w) s
  | .tick => .next s.tickEvent
  | .reset => .next s.resetEvent

/-- One step. With no event offered the block does nothing (R41; log entry 4). -/
def step (s : State) : Host.Outcome State Fault Refusal :=
  match s.inputs with
  | [] => .next s
  | e :: es => performEvent e (s.setInputs es)

/-- The state in which the very next step runs the instruction of `nbits` bits whose value is `w` (log entry 6). -/
def State.withFetchWord (s : State) (nbits w : Nat) : State := s.placeWord nbits w

end Sys2Proof.Machine
end

