-- ==== Sys2Proof/Machine/LinkSession.lean ====
section
/-! DEFINITION. The documented host, the Link Session (44_link_session_host.md). It is no part of the block and `step`
does not call it (R6): it drives a block through bus accesses only. No event of another agent falls between the accesses
of one of its iterations here (log entry 14). -/

namespace Sys2Proof.Machine

/-! ## Pure functions -/

/-- `clamp(x, lo, hi)` (R188). -/
def clamp (x lo hi : Int) : Int := if x < lo then lo else if x > hi then hi else x

/-- `pwm_map(v)` (R188): truncating linear interpolation with clamp to range. -/
def pwmMap (v : Int) : Int := clamp (1000 + Int.tdiv ((v + 128) * 1000) 255) 1000 2000

/-- The pulse widths the actuator takes: "range 1000–2000" (R197). -/
def PulseInRange (us : Int) : Prop := 1000 ≤ us ∧ us ≤ 2000

/-- The law of the rate limiter (R190): whether it fires at `now`, and its last-fire tick after the call. -/
def rateLimit (period lastFire now : Nat) : Bool × Nat :=
  if period ≤ now - lastFire then (true, now) else (false, lastFire)

/-! ## The host's state and parameters -/

/-- The two endpoints (R182). -/
inductive Endpoint
  | transmitter
  | receiver
deriving DecidableEq, Repr

/-- The arguments of the radio's `init` (R181, R196), OPEN (D33). Their encodings are the radio's, out of scope (R7). -/
structure RadioSettings where
  channel : Nat
  power : Nat
  dataRate : Nat
deriving DecidableEq, Repr

/-- The pin assignments (R181), OPEN. -/
structure Pins where
  led : Nat
  actuator : Nat
deriving DecidableEq, Repr

/-- What becomes of a snapshot that is not fresh when a send is due: R191 leaves open whether it is "sent with a mark or
not sent". The choice is a parameter (log entry 20). -/
inductive StalePolicy
  | notSent
  | sentMarked
deriving DecidableEq, Repr

/-- The host's parameters, all OPEN (R181), and its role (R182). -/
structure HostParams where
  endpoint : Endpoint
  failsafeTimeout : Nat
  neutralUs : Int
  periodSetPwm : Nat
  periodReply : Nat
  gatherPeriod : Nat
  radio : RadioSettings
  pins : Pins
  stale : StalePolicy
deriving DecidableEq, Repr

/-- The constraint the actuator's contract puts on the host's parameters, a premise of claims about pulse widths
(log entry 26). -/
structure HostParams.Valid (h : HostParams) : Prop where
  /-- The pulse width the failsafe forces is one the actuator takes (R181, R197). -/
  neutral_inRange : PulseInRange h.neutralUs

/-- The host's variables (R180); ticks are naturals, since the spec gives no width and no wrap (log entry 14). One
snapshot and one flag serve the received and the gathered telemetry (log entry 19). -/
structure Session where
  lastValidCommandTick : Nat
  lastSentSetPwm : Nat
  lastSentReply : Nat
  lastGatherTick : Nat
  snapshot : Vector Byte 20
  fresh : Bool
  timeoutReported : Bool
deriving DecidableEq, Repr

/-- Where the host is in its start-up order (R284). -/
inductive Phase
  /-- Before the initialisation; no command has been issued. -/
  | startUp
  /-- In the control loop (R183). -/
  | loop
  /-- The initialisation failed: "the process never reaches the control loop". -/
  | halted
deriving DecidableEq, Repr

/-- What the host hands the radio: a frame, and whether it is marked as stale. The layouts carry no such mark (R191,
D13), so it stands beside the bytes (log entry 20). -/
structure Transmission where
  bytes : List Byte
  markedStale : Bool
deriving DecidableEq, Repr

/-- The host with its block, and what it has done so far, oldest first: the settings it called the radio's `init` with,
the pulse widths it gave the actuator, the frames it gave the radio, the reports it issued (accepted or dropped). -/
structure Link where
  phase : Phase
  session : Session
  block : State
  radioInits : List RadioSettings
  actuator : List Int
  sent : List Transmission
  reports : List FaultCode
deriving DecidableEq, Repr

/-- The host before its start-up, with a block and initial values of its variables, which the spec does not give
(R284; log entry 14). -/
def Link.initial (session : Session) (block : State) : Link where
  phase := .startUp
  session := session
  block := block
  radioInits := []
  actuator := []
  sent := []
  reports := []

/-- What one poll of the radio yields (R186, R196). -/
inductive RadioPoll
  | nothing
  | error
  | frame (bytes : List Byte)
deriving DecidableEq, Repr

/-- What the external collaborators answer (R196, R198): `initOk` at start-up, the rest during one iteration. `refresh`
holds all 20 field bytes in wire form, `none` on a read failure: that tachometer and tachometer-absolute come with them is
the model's choice (N20, log entry 21). -/
structure LoopInputs where
  initOk : Bool
  now : Nat
  poll : RadioPoll
  throttle : Byte
  sendOk : Bool
  refresh : Option (Vector Byte 20)
deriving DecidableEq, Repr

/-! ## Bus sequences -/

/-- One `WR` of the host. -/
def State.hostWr (s : State) (a v : Byte) : State := s.hostWrite fun s => s.doWr a v

/-- The pseudo-instruction `REPORT c` (R98). -/
def State.hostReport (s : State) (c : FaultCode) : State := (s.hostWr 0x01#8 c.toByte).hostWr 0x00#8 0x07#8

/-- The pseudo-instruction `HALT c` (R98). -/
def State.hostHalt (s : State) (c : FaultCode) : State := (s.hostWr 0x01#8 c.toByte).hostWr 0x00#8 0x08#8

/-- The host's test of `RESULT` after a codec command (R195): did it succeed? -/
def State.hostSucceeded (s : State) : Bool := decide (s.busRead 0x03#8 = 0x00#8)

/-- `WR BUF+i, b` for the bytes of a string, from index `i`. -/
def State.hostLoadFrom (s : State) (i : Nat) : List Byte → State
  | [] => s
  | b :: bs => State.hostLoadFrom (s.hostWr (BitVec.ofNat 8 (0x40 + i)) b) (i + 1) bs

/-- The pseudo-instruction `LDBUF` (R98): the bytes, then `LEN`. The radio hands over at most 32 (R196). -/
def State.hostLoad (s : State) (bytes : List Byte) : State :=
  (s.hostLoadFrom 0 (bytes.take Config.mtu)).hostWr 0x02#8 (BitVec.ofNat 8 (bytes.take Config.mtu).length)

/-- `WR RS+j, b` for the bytes of a `ReplyStatus`, from index `j`. That the host fills all 20 bytes under either schema,
`RS[8..19]` under `NARROW` among them, is the model's choice (log entry 18). -/
def State.hostPutReplyFrom (s : State) (j : Nat) : List Byte → State
  | [] => s
  | b :: bs => State.hostPutReplyFrom (s.hostWr (BitVec.ofNat 8 (0x20 + j)) b) (j + 1) bs

/-- The bytes the host reads back as the frame, `BUF[0..LEN-1]` (R171). -/
def State.hostFrame (s : State) : List Byte :=
  (List.range (s.busRead 0x02#8).toNat).map fun i => s.busRead (BitVec.ofNat 8 (0x40 + i))

/-- `RS[0..19]` as the host reads it, all 20 bytes under either schema (log entry 18). -/
def State.hostReply (s : State) : Vector Byte 20 :=
  Vector.ofFn fun j => s.busRead (BitVec.ofNat 8 (0x20 + j.val))

/-- The send pipeline after the fields are in place: `ENCMSG` and, if it succeeded, `ENCODE` (R171, R195). -/
def State.hostEncode (s : State) : State :=
  let typed := s.hostWr 0x00#8 0x05#8
  bif typed.hostSucceeded then typed.hostWr 0x00#8 0x03#8 else typed

/-- The host issues `REPORT c` (R193). -/
def Link.report (c : FaultCode) (l : Link) : Link :=
  { l with block := l.block.hostReport c, reports := l.reports ++ [c] }

/-- Every pulse width the host has given the actuator is one it takes (R197). -/
def Link.ActuatorInRange (l : Link) : Prop := ∀ us ∈ l.actuator, PulseInRange us

/-! ## The four steps of an iteration (R183) -/

/-- Step 1, failsafe (R184, R185): the actuator is forced while the silence lasts, one report per silence. Only the
endpoint that has an actuator acts (R182). -/
def Link.failsafe (h : HostParams) (now : Nat) (l : Link) : Link :=
  if h.endpoint = .receiver ∧ now - l.session.lastValidCommandTick > h.failsafeTimeout then
    let forced := { l with actuator := l.actuator ++ [h.neutralUs] }
    if l.session.timeoutReported then forced
    else Link.report .safetyTimeout { forced with session := { l.session with timeoutReported := true } }
  else l

/-- Dispatch of a recognised message (R187, R189). A `SetPwm` has an effect only where an actuator exists, at the receiver
(R182). That storing a `ReplyStatus` sets the freshness flag is the model's choice (log entry 19). -/
def Link.dispatch (h : HostParams) (now : Nat) (l : Link) : Link :=
  if l.block.busRead 0x10#8 = 0x01#8 then
    match h.endpoint with
    | .transmitter => l
    | .receiver =>
      { l with
        session := { l.session with lastValidCommandTick := now, timeoutReported := false }
        actuator := l.actuator ++ [pwmMap (asInt8 (l.block.busRead 0x11#8))] }
  else { l with session := { l.session with snapshot := l.block.hostReply, fresh := true } }

/-- The typed stage of a received payload: `DECMSG`, then dispatch or a report (R186). -/
def Link.receiveMessage (h : HostParams) (now : Nat) (l : Link) : Link :=
  let decoded := { l with block := l.block.hostWr 0x00#8 0x06#8 }
  bif decoded.block.hostSucceeded then decoded.dispatch h now else decoded.report .unknownCommand

/-- Step 2, receive (R186): at most one frame; a failure is reported and the frame dropped. `LENGTH_ERROR` has no
fault code (R193). -/
def Link.receive (h : HostParams) (now : Nat) (poll : RadioPoll) (l : Link) : Link :=
  match poll with
  | .nothing => l
  | .error => l.report .ioFailure
  | .frame bytes =>
    let deciphered := { l with block := (l.block.hostLoad bytes).hostWr 0x00#8 0x04#8 }
    bif deciphered.block.hostSucceeded then deciphered.receiveMessage h now
    else if deciphered.block.busRead 0x03#8 = 0x02#8 then deciphered.report .integrity
    else deciphered

/-- The radio's part of a send: the frame is handed over; a failure is reported, not retried (R190). -/
def Link.radioSend (sendOk marked : Bool) (l : Link) : Link :=
  let out := { l with sent := l.sent ++ [⟨l.block.hostFrame, marked⟩] }
  bif sendOk then out else out.report .ioFailure

/-- Codec-encode and radio send of the staged message (R190). If a command of the pipeline failed, its outputs are not
used (R195): nothing is sent, and nothing reported, since R193 pairs no code with it (log entry 22). -/
def Link.sendStaged (sendOk marked : Bool) (l : Link) : Link :=
  let encoded := { l with block := l.block.hostEncode }
  bif encoded.block.hostSucceeded then Link.radioSend sendOk marked encoded else encoded

/-- Step 3, periodic send (R190): the transmitter's `SetPwm`, the receiver's `ReplyStatus` (R182). A
snapshot that is not fresh is never sent as if valid (R191): it is not sent, or sent with a mark; a fire that sends nothing
counts as a fire (log entry 20). -/
def Link.periodicSend (h : HostParams) (now : Nat) (throttle : Byte) (sendOk : Bool) (l : Link) : Link :=
  match h.endpoint with
  | .transmitter =>
    let fire := rateLimit h.periodSetPwm l.session.lastSentSetPwm now
    let counted := { l with session := { l.session with lastSentSetPwm := fire.2 } }
    if fire.1 then
      let staged := (l.block.hostWr 0x10#8 0x01#8).hostWr 0x11#8 throttle
      Link.sendStaged sendOk false { counted with block := staged }
    else counted
  | .receiver =>
    let fire := rateLimit h.periodReply l.session.lastSentReply now
    let counted := { l with session := { l.session with lastSentReply := fire.2 } }
    if fire.1 && (l.session.fresh || decide (h.stale = .sentMarked)) then
      let staged := (l.block.hostWr 0x10#8 0x02#8).hostPutReplyFrom 0 l.session.snapshot.toList
      Link.sendStaged sendOk (!l.session.fresh) { counted with block := staged }
    else counted

/-- Step 4, telemetry gathering (R191): a failed read clears the freshness flag and is reported (R193).
The model's choice is that only the receiver, which has the telemetry source, runs this step (log entry 20). -/
def Link.gather (h : HostParams) (now : Nat) (refresh : Option (Vector Byte 20)) (l : Link) : Link :=
  match h.endpoint with
  | .transmitter => l
  | .receiver =>
    let fire := rateLimit h.gatherPeriod l.session.lastGatherTick now
    let counted := { l with session := { l.session with lastGatherTick := fire.2 } }
    if fire.1 then
      match refresh with
      | some fields => { counted with session := { counted.session with snapshot := fields, fresh := true } }
      | none => Link.report .ioFailure { counted with session := { counted.session with fresh := false } }
    else counted

/-- One iteration of the control loop: the four steps in order, each whatever the others did (R183). -/
def Link.iterate (h : HostParams) (x : LoopInputs) (l : Link) : Link :=
  Link.gather h x.now x.refresh
    (Link.periodicSend h x.now x.throttle x.sendOk (Link.receive h x.now x.poll (Link.failsafe h x.now l)))

/-! ## Start-up and the whole host -/

/-- What start-up does to the block (R284, R194): a failed hardware or radio initialisation halts it with `HW_INIT`. -/
def State.hostStartUp (s : State) (initOk : Bool) : State := bif initOk then s else s.hostHalt .hwInit

/-- Start-up (R284): `init` with the radio's settings; success enters the loop, and failure never does (R192).
The model's choice is that one answer stands for the hardware's and the radio's initialisation, and that the radio's `init`
is called at every start-up, also when the hardware's fails (log entry 25). -/
def Link.startUp (h : HostParams) (initOk : Bool) (l : Link) : Link :=
  { l with
    radioInits := l.radioInits ++ [h.radio]
    block := l.block.hostStartUp initOk
    phase := bif initOk then .loop else .halted }

/-- One step of the documented host: start-up first, before any command and any iteration (R194); then one iteration of
the loop; and nothing any more after the `HALT` of a failed start-up (R192, R284). -/
def Link.advance (h : HostParams) (x : LoopInputs) (l : Link) : Link :=
  match l.phase with
  | .startUp => l.startUp h x.initOk
  | .loop => l.iterate h x
  | .halted => l

/-- A run of the documented host. That no tick or reset event reaches its block between two steps of the run, nor after the
`HALT` of a failed start-up, is the model's choice: R11 allows any interleaving (log entry 23). -/
def Link.run (h : HostParams) (xs : List LoopInputs) (l : Link) : Link := xs.foldl (fun l x => l.advance h x) l

end Sys2Proof.Machine
end

