-- ==== Sys2Proof/Safety.lean ====
section
/-! DEFINITION. What a safe state is: the invariants of R39, the tie between the pin and the schedule, and the states
a run can reach. -/

namespace Sys2Proof.Machine

/-- The invariants of R39 that speak of one state: (a), (b), (d), and (e) as it stands between events (R233). R39 (c)
speaks of a step. -/
structure Inv (s : State) : Prop where
  /-- (a) `STARTED = 1` implies `ACTIVE = 1`. -/
  started_active : s.started = true → s.active = true
  /-- (b) `ACTIVE = 0` implies `LED = 0`. -/
  idle_dark : s.active = false → s.led = false
  /-- (d) `RESULT.CODE <= 4`. -/
  result_le : s.result.toByte.toNat ≤ 4
  /-- (e) a halted block is never left `Idle`. -/
  halted_active : s.halted = true → s.active = true

/-- The pin shows what the schedule says (R214, R218): a started announcement is inside its pattern and the pin is at
the level of its step; in every other state the pin is dark. -/
structure PinShowsSchedule (s : State) : Prop where
  started_active : s.started = true → s.active = true
  started_inside : s.started = true → s.stepIndex < s.params.totalSteps
  started_level : s.started = true → s.led = pattern s.params s.annCode s.stepIndex
  unstarted_dark : s.started = false → s.led = false

/-- The states a run from a reset can reach, for some instance and some draw, with events offered at any time. -/
inductive Reachable : State → Prop
  | reset (p : Params) (d : ResetDraw) : p.Valid → Reachable (State.resetOf p d)
  | offer (s : State) (c : Cycle) : Reachable s → Reachable (s.offer c)
  | step (s t : State) : Reachable s → Machine.step s = .next t → Reachable t

/-- The instruction a host transaction amounts to: a write to `CMD` is the command it carries (R22, R90). -/
def canonical : Instr → Instr
  | .wr a v => if a = 0x00#8 then decodeCmd8 v else .wr a v
  | .rd a d => .rd a d
  | .nop => .nop
  | .crc8 => .crc8
  | .cipher => .cipher
  | .encode => .encode
  | .decode => .decode
  | .encmsg => .encmsg
  | .decmsg => .decmsg
  | .report => .report
  | .halt => .halt
  | .illegal op => .illegal op

/-- The host accesses whose order with a tick event does not matter (R254): every one but `REPORT`, `HALT`, the writes of
`CMD` that carry them, and an `RD` of `ANN_STATUS` or `ANN_CODE`. -/
def isCodec : Instr → Bool
  | .rd a _ => decide (a ≠ 0x05#8 ∧ a ≠ 0x06#8)
  | .wr a v => decide (a ≠ 0x00#8 ∨ v ≠ 0x07#8 ∧ v ≠ 0x08#8)
  | .nop => true
  | .crc8 => true
  | .cipher => true
  | .encode => true
  | .decode => true
  | .encmsg => true
  | .decmsg => true
  | .illegal _ => true
  | .report => false
  | .halt => false

/-- The commands (R93): every instruction but the two bus primitives. -/
def isCommand : Instr → Bool
  | .rd _ _ => false
  | .wr _ _ => false
  | .nop => true
  | .crc8 => true
  | .cipher => true
  | .encode => true
  | .decode => true
  | .encmsg => true
  | .decmsg => true
  | .report => true
  | .halt => true
  | .illegal _ => true

/-- The block is as after the acceptance of a report of `code`, before its first tick event. -/
def State.JustAccepted (s : State) (code : Byte) : Prop :=
  s.active = true ∧ s.started = false ∧ s.annCode = code

/-- How many tick events a list of events holds. -/
def tickCount (es : List Event) : Nat := es.count .tick

end Sys2Proof.Machine
end

