-- ==== Sys2Proof/Certificates/Slice0/Obligations.lean ====
section
/-! DEFINITION. The statements for the provers. "Next" is `Host.Outcome.next`: the instruction or step completes. -/

open Sys2Proof Sys2Proof.Machine

/-! ## Encoding -/

/-- Words written out from R91, R93, R96 and the listings of the test-vector file decode to what they stand for. -/
def Obligations.SpecWordsDecode : Prop :=
  decodeBus17 0x14140#17 = .wr 0x41#8 0x40#8 ∧ decodeBus17 0x00300#17 = .rd 0x03#8 0x00#8 ∧
  decodeBus17 0x15FA5#17 = .wr 0x5F#8 0xA5#8 ∧ decodeBus17 0x11002#17 = .wr 0x10#8 0x02#8 ∧
  decode (.cmd8 0x00#8) = .nop ∧ decode (.cmd8 0x01#8) = .crc8 ∧ decode (.cmd8 0x03#8) = .encode ∧
  decode (.cmd8 0x06#8) = .decmsg ∧ decode (.cmd8 0x08#8) = .halt ∧
  decode (.cmd8 0x09#8) = .illegal 0x09#8 ∧ decode (.cmd8 0xFF#8) = .illegal 0xFF#8

/-- R93, R96: the opcode map, whole, and the bus transaction of a command. -/
def Obligations.OpcodeMapIsWhole : Prop :=
  decodeCmd8 0x00#8 = .nop ∧ decodeCmd8 0x01#8 = .crc8 ∧ decodeCmd8 0x02#8 = .cipher ∧
  decodeCmd8 0x03#8 = .encode ∧ decodeCmd8 0x04#8 = .decode ∧ decodeCmd8 0x05#8 = .encmsg ∧
  decodeCmd8 0x06#8 = .decmsg ∧ decodeCmd8 0x07#8 = .report ∧ decodeCmd8 0x08#8 = .halt ∧
  (∀ op : Byte, 0x09 ≤ op.toNat → decodeCmd8 op = .illegal op) ∧
  ∀ op : Byte, (busWordOf (.cmd8 op)).toNat = 0x10000 + op.toNat

/-- R91: bit 16 is `rw`, bits 15:8 the address, bits 7:0 the data, each used as it stands (R95). -/
def Obligations.BusFieldsAreReadWhole : Prop :=
  ∀ a d : Byte,
    decodeBus17 (BitVec.ofNat 17 (0x10000 + 0x100 * a.toNat + d.toNat)) = .wr a d ∧
    decodeBus17 (BitVec.ofNat 17 (0x100 * a.toNat + d.toNat)) = .rd a d

/-- R90, R91, R93, R96: decoding the word of a well-formed instruction gives the instruction back, for all of them and
every operand. -/
def Obligations.DecodeOfEncode : Prop :=
  ∀ i : Instr, i.wf = true → decode (encode i) = i

/-- R90, R91, R93, R96: every word of either format is the word of one well-formed instruction: decoding is unambiguous
and drops no bit. -/
def Obligations.EncodeOfDecode : Prop :=
  ∀ c : Code, encode (decode c) = c ∧ (decode c).wf = true

/-! ## The step -/

/-- R11, R68: when the events wait in a list (the model's choice, log entry 3) and the oldest event is a bus
transaction that decodes to `i`, the step is `exec` of `i` at the state without that event. -/
def Obligations.StepRunsTheDecodedInstruction : Prop :=
  ∀ (s : State) (w : BusWord) (es : List Event) (i : Instr),
    s.inputs = .host w :: es → decodeBus17 w = i → step s = exec i { s with inputs := es }

/-- R10, R214, R281: tick and reset events are steps of their own. That a step with no event offered leaves the state
as it is is the model's choice (log entry 4). -/
def Obligations.StepPerformsTickResetAndNothing : Prop :=
  (∀ (s : State) (es : List Event), s.inputs = .tick :: es →
    step s = .next ({ s with inputs := es } : State).tickEvent) ∧
  (∀ (s : State) (es : List Event), s.inputs = .reset :: es →
    step s = .next ({ s with inputs := es } : State).resetEvent) ∧
  ∀ s : State, s.inputs = [] → step s = .next s

/-- R61, R254, R282: what a clock cycle does to a block with no event waiting; the cycle's events are written to the
list of log entry 3. -/
def Obligations.CycleOrder : Prop :=
  ∀ (s : State) (w : BusWord), s.inputs = [] →
    (∀ (b : Bool) (a : Option BusWord),
      (core.run 1 (s.offer ⟨true, b, a⟩) = .next s.resetEvent ∧ (s.offer ⟨true, b, a⟩).inputs.length = 1)) ∧
    core.run 2 (s.offer ⟨false, true, some w⟩) = exec (decodeBus17 w) s.tickEvent ∧
    core.run 1 (s.offer ⟨false, false, some w⟩) = exec (decodeBus17 w) s ∧
    core.run 1 (s.offer ⟨false, true, none⟩) = .next s.tickEvent ∧
    s.offer ⟨false, false, none⟩ = s

/-- No event stops the block: failures are values of `RESULT` (R250, R257). That no step ends in a fault is read from
them by inference (log entry 16). -/
def Obligations.EveryStepCompletes : Prop :=
  ∀ s : State, ∃ t : State, step s = .next t

/-! ## Reset -/

/-- R40, R281: a reset event writes the reset values, from every state, halted or announcing; parameters stay. The four
unspecified registers take the free draw of log entry 2. That the record of the latest read stays (log entry 5), that
the other events go on waiting (log entry 3) and that `resets` counts (log entry 2) are the model's choices. -/
def Obligations.ResetEventWritesTheResetValues : Prop :=
  ∀ (s : State) (es : List Event), s.inputs = .reset :: es →
    step s = .next
      { arg := 0x00#8, len := 0x00#8, result := .ok, crc := 0x00#8, active := false, started := false, halted := false,
        led := false, annCode := 0x00#8, haltCode := 0x00#8, msgId := (resetDraw s.resets).msgId,
        pwmValue := (resetDraw s.resets).pwmValue, rs := (resetDraw s.resets).rs, buf := (resetDraw s.resets).buf,
        tickCnt := 0#32, startTick := 0#32, params := s.params, inputs := es, rdata := s.rdata,
        resets := s.resets + 1 }

/-- R40: what reads return right after power-on, for every instance and every draw (log entries 2 and 5). -/
def Obligations.ReadsAfterReset : Prop :=
  ∀ (p : Params) (d : ResetDraw) (a : Byte), a.toNat < 0x10 →
    exec (.rd a 0x00#8) (State.resetOf p d) = .next { State.resetOf p d with rdata := some 0x00#8 }

/-! ## The bus primitives -/

/-- R21, R62: what `RD` returns at each of the 256 addresses, halted or not, whatever its data field; nothing else
changes. (`rdata` is the model's record of the byte returned, log entry 5.) -/
def Obligations.ReadReturnsTheRegister : Prop :=
  ∀ (s : State) (d : Byte),
    exec (.rd 0x00#8 d) s = .next { s with rdata := some 0x00#8 } ∧
    exec (.rd 0x01#8 d) s = .next { s with rdata := some s.arg } ∧
    exec (.rd 0x02#8 d) s = .next { s with rdata := some s.len } ∧
    exec (.rd 0x03#8 d) s = .next { s with rdata := some s.result.toByte } ∧
    exec (.rd 0x04#8 d) s = .next { s with rdata := some s.crc } ∧
    exec (.rd 0x05#8 d) s = .next { s with rdata := some (BitVec.ofNat 8
      (s.active.toNat + 2 * s.started.toNat + 4 * s.halted.toNat + 8 * s.led.toNat)) } ∧
    exec (.rd 0x06#8 d) s = .next { s with rdata := some s.annCode } ∧
    exec (.rd 0x07#8 d) s = .next { s with rdata := some s.haltCode } ∧
    exec (.rd 0x10#8 d) s = .next { s with rdata := some s.msgId } ∧
    exec (.rd 0x11#8 d) s = .next { s with rdata := some s.pwmValue } ∧
    (∀ (j : Nat) (h : j < 20),
      exec (.rd (BitVec.ofNat 8 (0x20 + j)) d) s = .next { s with rdata := some s.rs[j] }) ∧
    (∀ (i : Nat) (h : i < 32),
      exec (.rd (BitVec.ofNat 8 (0x40 + i)) d) s = .next { s with rdata := some s.buf[i] }) ∧
    ∀ a : Byte, (0x08 ≤ a.toNat ∧ a.toNat ≤ 0x0F ∨ 0x12 ≤ a.toNat ∧ a.toNat ≤ 0x1F ∨
        0x34 ≤ a.toNat ∧ a.toNat ≤ 0x3F ∨ 0x60 ≤ a.toNat) →
      exec (.rd a d) s = .next { s with rdata := some 0x00#8 }

/-- R63: on a block that is not halted an `RW` register takes all 8 bits, and nothing else changes. -/
def Obligations.WriteStoresTheByte : Prop :=
  ∀ (s : State) (v : Byte), s.halted = false →
    exec (.wr 0x01#8 v) s = .next { s with arg := v } ∧
    exec (.wr 0x02#8 v) s = .next { s with len := v } ∧
    exec (.wr 0x10#8 v) s = .next { s with msgId := v } ∧
    exec (.wr 0x11#8 v) s = .next { s with pwmValue := v } ∧
    (∀ (j : Nat) (h : j < 20),
      exec (.wr (BitVec.ofNat 8 (0x20 + j)) v) s = .next { s with rs := s.rs.set j v }) ∧
    ∀ (i : Nat) (h : i < 32),
      exec (.wr (BitVec.ofNat 8 (0x40 + i)) v) s = .next { s with buf := s.buf.set i v }

/-- R21, R63: a write to a read-only or a reserved address changes nothing, `RESULT` included. -/
def Obligations.ReadOnlyAndReservedIgnoreWrites : Prop :=
  ∀ (s : State) (a v : Byte),
    (0x03 ≤ a.toNat ∧ a.toNat ≤ 0x0F ∨ 0x12 ≤ a.toNat ∧ a.toNat ≤ 0x1F ∨
      0x34 ≤ a.toNat ∧ a.toNat ≤ 0x3F ∨ 0x60 ≤ a.toNat) →
    exec (.wr a v) s = .next s

/-- R62, R63, R68, as the model reads a byte (log entry 5): a read of an `RW` address after a write of it returns the
byte written, and every other address reads as before. -/
def Obligations.ReadAfterWrite : Prop :=
  ∀ (s : State) (a v : Byte), s.halted = false →
    (a.toNat = 0x01 ∨ a.toNat = 0x02 ∨ a.toNat = 0x10 ∨ a.toNat = 0x11 ∨
      0x20 ≤ a.toNat ∧ a.toNat ≤ 0x33 ∨ 0x40 ≤ a.toNat ∧ a.toNat ≤ 0x5F) →
    ∃ t : State, exec (.wr a v) s = .next t ∧ t.busRead a = v ∧ ∀ b : Byte, b ≠ a → t.busRead b = s.busRead b

/-- R22, R63, R93 (two readings of one word, log entry 7): a write to `CMD` is the execution of the command whose
opcode it carries, halted or not. -/
def Obligations.WriteToCmdExecutesItsCommand : Prop :=
  ∀ (op : Byte) (s : State), exec (.wr 0x00#8 op) s = exec (decodeCmd8 op) s

/-! ## Halted -/

/-- R232: while `HALTED = 1` every host write is ignored, `CMD` included. -/
def Obligations.HaltedBlockIgnoresWrites : Prop :=
  ∀ (i : Instr) (s : State), s.halted = true → (∀ a d : Byte, i ≠ .rd a d) → exec i s = .next s

/-- R39 (c), R232: only a reset event clears `HALTED`. -/
def Obligations.HaltedIsStickyUntilReset : Prop :=
  ∀ s t : State, s.halted = true → s.inputs.head? ≠ some .reset → step s = .next t → t.halted = true

/-- R231, R261: only the `HALT` command halts the block. -/
def Obligations.OnlyHaltHalts : Prop :=
  (∀ (i : Instr) (s t : State), s.halted = false → exec i s = .next t → t.halted = true → canonical i = .halt) ∧
  ∀ s : State, s.tickEvent.halted = s.halted

/-! ## Commands: results and frames -/

/-- R111: opcode 0x00 is `NOP`, which writes `RESULT` only; while halted it is ignored like every write. -/
def Obligations.NopClearsResult : Prop :=
  decodeCmd8 0x00#8 = .nop ∧
  ∀ s : State, (s.halted = false → exec .nop s = .next { s with result := .ok }) ∧
    (s.halted = true → exec .nop s = .next s)

/-- R96: an unassigned opcode raises `ILLEGAL_COMMAND` and changes nothing else, as a command and as the bus write that
carries it. -/
def Obligations.UnassignedOpcodeIsIllegal : Prop :=
  ∀ (s : State) (op : Byte), s.halted = false → 0x09 ≤ op.toNat →
    exec (.illegal op) s = .next { s with result := .illegalCommand } ∧
    exec (.wr 0x00#8 op) s = .next { s with result := .illegalCommand }

/-- R112, with the checksum of log entry 12: `CRC8` writes the checksum of `BUF[0..LEN-1]`, or raises `LENGTH_ERROR`
when `LEN > 32`. -/
def Obligations.Crc8CommandWritesTheChecksum : Prop :=
  ∀ s : State, s.halted = false →
    (s.len.toNat ≤ 32 →
      exec .crc8 s = .next { s with crc := crc8 (s.buf.toList.take s.len.toNat), result := .ok }) ∧
    (32 < s.len.toNat → exec .crc8 s = .next { s with result := .lengthError })

/-- R122 (which the spec marks as derived), R123: `CIPHER` XORs the mask onto `BUF[0..LEN-1]` and touches no other byte
and no register but `RESULT`; `LEN = 0` and `LEN > 32` raise `LENGTH_ERROR`. -/
def Obligations.CipherXorsTheMask : Prop :=
  ∀ s : State, s.halted = false →
    (1 ≤ s.len.toNat → s.len.toNat ≤ 32 →
      ∃ t : State, exec .cipher s = .next t ∧
        (∀ (j : Nat) (h : j < 32), t.buf[j] =
          if j < s.len.toNat then s.buf[j] ^^^ cipherMask s.params.key s.len.toNat j else s.buf[j]) ∧
        t = { s with buf := t.buf, result := .ok }) ∧
    (s.len.toNat = 0 ∨ 32 < s.len.toNat → exec .cipher s = .next { s with result := .lengthError })

/-- R135, R136, with the checksum of log entry 12: `ENCODE` builds the frame of the payload `BUF[0..LEN-1]`: byte `j`
of payload and trailer XORed with the mask of the frame length; bytes beyond the frame stay. -/
def Obligations.EncodeBuildsTheFrame : Prop :=
  ∀ (s : State) (n : Nat) (p : List Byte), s.halted = false → s.len.toNat = n → n ≤ 31 → p = s.buf.toList.take n →
    ∃ t : State, exec .encode s = .next t ∧
      (∀ (j : Nat) (h : j < 32), t.buf[j] =
        if j < n then s.buf[j] ^^^ cipherMask s.params.key (n + 1) j
        else if j = n then crc8 p ^^^ cipherMask s.params.key (n + 1) n
        else s.buf[j]) ∧
      t = { s with buf := t.buf, crc := crc8 p, len := BitVec.ofNat 8 (n + 1), result := .ok }

/-- R137: `ENCODE` raises `LENGTH_ERROR` exactly when `LEN >= 32`, and then nothing but `RESULT` changes. -/
def Obligations.EncodeLengthErrorExactly : Prop :=
  ∀ s t : State, s.halted = false → exec .encode s = .next t →
    (t.result = .lengthError ↔ 32 ≤ s.len.toNat) ∧
    (32 ≤ s.len.toNat → t = { s with result := .lengthError })

/-- R142, R144, with the checksum of log entry 12: `DECODE` deciphers in place, recomputes the checksum, and either
leaves the payload length or clears `LEN` with `INTEGRITY_FAILURE`; nothing else changes. -/
def Obligations.DecodeDeciphersAndChecks : Prop :=
  ∀ (s : State) (l : Nat), s.halted = false → s.len.toNat = l → 1 ≤ l → l ≤ 32 →
    ∃ t : State, exec .decode s = .next t ∧
      (∀ (j : Nat) (h : j < 32), t.buf[j] =
        if j < l then s.buf[j] ^^^ cipherMask s.params.key l j else s.buf[j]) ∧
      t.crc = crc8 (t.buf.toList.take (l - 1)) ∧
      (some t.crc = t.buf[l - 1]? →
        t = { s with buf := t.buf, crc := t.crc, len := BitVec.ofNat 8 (l - 1), result := .ok }) ∧
      (some t.crc ≠ t.buf[l - 1]? →
        t = { s with buf := t.buf, crc := t.crc, len := 0x00#8, result := .integrityFailure })

/-- R143: `DECODE` raises `LENGTH_ERROR` exactly when `LEN = 0` or `LEN > 32`, and then only `RESULT` changes. A frame
of one byte is accepted: its payload is empty, and it passes exactly when the deciphered byte is 0x00. -/
def Obligations.DecodeLengthErrorExactly : Prop :=
  ∀ s t : State, s.halted = false → exec .decode s = .next t →
    (t.result = .lengthError ↔ (s.len.toNat = 0 ∨ 32 < s.len.toNat)) ∧
    (s.len.toNat = 0 ∨ 32 < s.len.toNat → t = { s with result := .lengthError }) ∧
    (s.len.toNat = 1 → t.crc = 0x00#8 ∧ t.len = 0x00#8 ∧ t.buf[0] = s.buf[0] ^^^ cipherMask s.params.key 1 0 ∧
      (t.result = .ok ↔ t.buf[0] = 0x00#8))

/-- R144: the state after an integrity failure: the bytes are deciphered and stay in `BUF`, `CRC` is the recomputed
checksum and differs from the trailer, `LEN = 0`; a `DECMSG` then raises `PROTOCOL_FAILURE` and touches no message
register. -/
def Obligations.DiscardedFrameReachesNoMessageRegister : Prop :=
  ∀ (s t : State) (l : Nat), s.halted = false → s.len.toNat = l → exec .decode s = .next t →
    t.result = .integrityFailure →
    (∀ (j : Nat) (h : j < 32), t.buf[j] =
      if j < l then s.buf[j] ^^^ cipherMask s.params.key l j else s.buf[j]) ∧
    t.crc = crc8 (t.buf.toList.take (l - 1)) ∧ some t.crc ≠ t.buf[l - 1]? ∧ t.len = 0x00#8 ∧
    t.msgId = s.msgId ∧ t.pwmValue = s.pwmValue ∧ t.rs = s.rs ∧
    exec .decmsg t = .next { t with result := .protocolFailure }

/-- R161, R162: `ENCMSG` writes the discriminant and the fields and sets `LEN` to the wire size; an unknown
discriminant raises `PROTOCOL_FAILURE`; nothing else changes. -/
def Obligations.EncmsgWritesTheMessage : Prop :=
  ∀ s : State, s.halted = false →
    (s.msgId = 0x01#8 → ∃ t : State, exec .encmsg s = .next t ∧
      (∀ (j : Nat) (h : j < 32), t.buf[j] = if j = 0 then 0x01#8 else if j = 1 then s.pwmValue else s.buf[j]) ∧
      t = { s with buf := t.buf, len := 2#8, result := .ok }) ∧
    (s.msgId = 0x02#8 → ∃ t : State, exec .encmsg s = .next t ∧
      (∀ (j : Nat) (h : j < 32), t.buf[j] =
        if j = 0 then 0x02#8 else if j ≤ s.params.rsSize then rsAt s.rs (j - 1) else s.buf[j]) ∧
      t = { s with buf := t.buf, len := BitVec.ofNat 8 (1 + s.params.rsSize), result := .ok }) ∧
    (s.msgId ≠ 0x01#8 → s.msgId ≠ 0x02#8 → exec .encmsg s = .next { s with result := .protocolFailure })

/-- R165: `DECMSG` takes a `SetPwm` of two bytes or a `ReplyStatus` of `1 + RS_SIZE` bytes; nothing but the message
registers named and `RESULT` changes. -/
def Obligations.DecmsgReadsTheMessage : Prop :=
  ∀ s : State, s.halted = false →
    (s.buf[0] = 0x01#8 → s.len = 2#8 →
      exec .decmsg s = .next { s with msgId := 0x01#8, pwmValue := s.buf[1], result := .ok }) ∧
    (s.buf[0] = 0x02#8 → s.len.toNat = 1 + s.params.rsSize → ∃ t : State, exec .decmsg s = .next t ∧
      (∀ (j : Nat) (h : j < 20), t.rs[j] = if j < s.params.rsSize then s.buf[1 + j] else s.rs[j]) ∧
      t = { s with msgId := 0x02#8, rs := t.rs, result := .ok })

/-- R166, R167: in every case but the two of R165 `DECMSG` raises `PROTOCOL_FAILURE` (no payload, an unknown
discriminant, a length that is not the variant's wire size, a length above 32), and a `PROTOCOL_FAILURE` changes
nothing but `RESULT`; a `SetPwm` leaves `RS` and a `ReplyStatus` leaves `PWM_VALUE`. -/
def Obligations.DecmsgFailureChangesOnlyResult : Prop :=
  ∀ s : State, s.halted = false →
    (¬ (s.buf[0] = 0x01#8 ∧ s.len = 2#8) → ¬ (s.buf[0] = 0x02#8 ∧ s.len.toNat = 1 + s.params.rsSize) →
      exec .decmsg s = .next { s with result := .protocolFailure }) ∧
    ∀ t : State, exec .decmsg s = .next t →
      (t.result = .protocolFailure → t = { s with result := .protocolFailure }) ∧
      (t.result = .ok → t.msgId = 0x01#8 → t.rs = s.rs) ∧
      (t.result = .ok → t.msgId = 0x02#8 → t.pwmValue = s.pwmValue)

/-- R215, R216: `REPORT` is accepted when `Idle` and dropped, without a sign, when `Announcing`. -/
def Obligations.ReportIsAcceptedOrDropped : Prop :=
  ∀ s : State, s.halted = false →
    (s.active = false →
      exec .report s = .next { s with active := true, started := false, annCode := s.arg, result := .ok }) ∧
    (s.active = true → exec .report s = .next { s with result := .ok })

/-- R231, R235 (which the spec marks as derived): `HALT` records its code, sets `HALTED`, and reports; a report dropped
leaves the announcement in flight as it is. -/
def Obligations.HaltReportsAndLocks : Prop :=
  ∀ s : State, s.halted = false →
    (s.active = false →
      exec .halt s = .next { s with
        haltCode := s.arg, active := true, started := false, annCode := s.arg, halted := true, result := .ok }) ∧
    (s.active = true → exec .halt s = .next { s with haltCode := s.arg, halted := true, result := .ok })

/-- R42 (which the spec marks as derived): which instruction may write which state, read as "a field that changed was
written by one of these". -/
def Obligations.WriterTable : Prop :=
  ∀ (i : Instr) (s t : State), exec i s = .next t →
    (t.arg ≠ s.arg → canonical i = .wr 0x01#8 t.arg) ∧
    (t.len ≠ s.len → canonical i = .wr 0x02#8 t.len ∨ canonical i ∈ [.encode, .decode, .encmsg]) ∧
    (t.result ≠ s.result → isCommand (canonical i) = true) ∧
    (t.crc ≠ s.crc → canonical i ∈ [.crc8, .encode, .decode]) ∧
    (t.active ≠ s.active ∨ t.started ≠ s.started ∨ t.annCode ≠ s.annCode → canonical i ∈ [.report, .halt]) ∧
    (t.halted ≠ s.halted ∨ t.haltCode ≠ s.haltCode → canonical i = .halt) ∧
    (t.msgId ≠ s.msgId → canonical i = .wr 0x10#8 t.msgId ∨ canonical i = .decmsg) ∧
    (t.pwmValue ≠ s.pwmValue → canonical i = .wr 0x11#8 t.pwmValue ∨ canonical i = .decmsg) ∧
    (∀ (j : Nat) (h : j < 20), t.rs[j] ≠ s.rs[j] →
      canonical i = .wr (BitVec.ofNat 8 (0x20 + j)) t.rs[j] ∨ canonical i = .decmsg) ∧
    (∀ (j : Nat) (h : j < 32), t.buf[j] ≠ s.buf[j] →
      canonical i = .wr (BitVec.ofNat 8 (0x40 + j)) t.buf[j] ∨
        canonical i ∈ [.cipher, .encode, .decode, .encmsg]) ∧
    t.led = s.led ∧ t.tickCnt = s.tickCnt ∧ t.startTick = s.startTick ∧ t.params = s.params ∧
    t.inputs = s.inputs ∧ t.resets = s.resets ∧
    (t.rdata ≠ s.rdata → ∃ a d : Byte, i = .rd a d)

/-- R252 (which the spec marks as derived): after a command that raised `LENGTH_ERROR`, `PROTOCOL_FAILURE` or
`ILLEGAL_COMMAND` the state is the one before it with the new `RESULT` and nothing else. -/
def Obligations.FailuresArePrecise : Prop :=
  ∀ (i : Instr) (s t : State), isCommand i = true → s.halted = false → exec i s = .next t →
    t.result = .lengthError ∨ t.result = .protocolFailure ∨ t.result = .illegalCommand →
    t = { s with result := t.result }

/-! ## Checksum and cipher -/

/-- R113 (which the spec marks as derived), log entry 12: the table and the bit loop compute the same checksum, of
every byte string. -/
def Obligations.TableComputesCrc8 : Prop :=
  ∀ m : List Byte, crc8ByTable m = crc8 m

/-- R114 (b) (which the spec marks as derived): `crc8` is linear over strings of equal length. -/
def Obligations.Crc8IsLinear : Prop :=
  ∀ a b : List Byte, a.length = b.length → crc8 (List.zipWith (· ^^^ ·) a b) = crc8 a ^^^ crc8 b

/-- R114 (c), (d) (which the spec marks as derived): a string followed by its own checksum has checksum zero; leading
zero bytes do not show. -/
def Obligations.Crc8ResidueAndLeadingZeros : Prop :=
  ∀ m : List Byte, crc8 (m ++ [crc8 m]) = 0x00#8 ∧ ∀ k : Nat, crc8 (List.replicate k 0x00#8 ++ m) = crc8 m

/-- R114 (e), (f) (which the spec marks as derived): a change confined to one byte, a single bit among them, always
changes the checksum. -/
def Obligations.Crc8DetectsOneByteChanges : Prop :=
  ∀ (pre suf : List Byte) (x y : Byte), x ≠ y → crc8 (pre ++ x :: suf) ≠ crc8 (pre ++ y :: suf)

/-- R122 (which the spec marks as derived): the mask when `S >= K` is the key repeated, and when `S < K` the key folded
onto `S` bytes. -/
def Obligations.CipherMaskByCases : Prop :=
  ∀ (key : List Byte) (size j : Nat), 1 ≤ key.length → 1 ≤ size → j < size →
    (key.length ≤ size → cipherMask key size j = key.getD (j % key.length) 0x00#8) ∧
    (size < key.length → cipherMask key size j =
      (List.range key.length).foldl
        (fun x m => if j + m * size < key.length then x ^^^ key.getD (j + m * size) 0x00#8 else x) 0x00#8)

/-- R124 (a) (which the spec marks as derived): two `CIPHER` commands with the same `LEN` restore `BUF`. -/
def Obligations.CipherTwiceRestores : Prop :=
  ∀ s : State, s.halted = false → 1 ≤ s.len.toNat → s.len.toNat ≤ 32 →
    ∃ t : State, exec .cipher s = .next t ∧ exec .cipher t = .next { s with result := .ok }

/-! ## Frames and messages across blocks -/

/-- R145 (which the spec marks as derived): a block with the same key that is given the frame a block built for the
payload `p` decodes it to `p`. -/
def Obligations.FrameRoundTrip : Prop :=
  ∀ (s a r : State) (n : Nat), s.halted = false → r.halted = false → s.len.toNat = n → n ≤ 31 →
    exec .encode s = .next a → r.params.key = s.params.key → r.len = a.len →
    (∀ (j : Nat) (h : j < 32), j ≤ n → r.buf[j] = a.buf[j]) →
    ∃ b : State, exec .decode r = .next b ∧ b.result = .ok ∧ b.len = s.len ∧
      b.crc = crc8 (s.buf.toList.take n) ∧ b.buf[n]? = some (crc8 (s.buf.toList.take n)) ∧
      ∀ (j : Nat) (h : j < 32), j < n → b.buf[j] = s.buf[j]

/-- R146 (which the spec marks as derived): a frame changed in exactly one byte raises `INTEGRITY_FAILURE` at a block
with the same key. -/
def Obligations.OneByteCorruptionIsDetected : Prop :=
  ∀ (s a r : State) (n k : Nat), s.halted = false → r.halted = false → s.len.toNat = n → n ≤ 31 → k ≤ n →
    exec .encode s = .next a → r.params.key = s.params.key → r.len = a.len →
    (∀ (j : Nat) (h : j < 32), j ≤ n → (r.buf[j] = a.buf[j] ↔ j ≠ k)) →
    ∃ b : State, exec .decode r = .next b ∧ b.result = .integrityFailure ∧ b.len = 0x00#8

/-- R299 (which the spec marks as derived): with unequal keys a frame passes or fails by its length and the XOR `d` of
the two masks alone; a frame that passes delivers the payload XORed with `d`. -/
def Obligations.KeyMismatchDependsOnLengthOnly : Prop :=
  ∀ (s a r : State) (n : Nat) (d : Nat → Byte), s.halted = false → r.halted = false → s.len.toNat = n → n ≤ 31 →
    exec .encode s = .next a → r.len = a.len → (∀ (j : Nat) (h : j < 32), j ≤ n → r.buf[j] = a.buf[j]) →
    (∀ j : Nat, d j = cipherMask s.params.key (n + 1) j ^^^ cipherMask r.params.key (n + 1) j) →
    ∃ b : State, exec .decode r = .next b ∧
      (crc8 ((List.range n).map d) = d n → b.result = .ok ∧ b.len = s.len ∧
        ∀ (j : Nat) (h : j < 32), j < n → b.buf[j] = s.buf[j] ^^^ d j) ∧
      (crc8 ((List.range n).map d) ≠ d n → b.result = .integrityFailure)

/-- R170 (which the spec marks as derived): `ENCMSG` then `DECMSG` keeps the message registers; and a payload that
`DECMSG` accepts is rebuilt byte for byte by `ENCMSG`. -/
def Obligations.MessageRoundTrip : Prop :=
  (∀ s : State, s.halted = false → s.msgId = 0x01#8 ∨ s.msgId = 0x02#8 →
    ∃ t u : State, exec .encmsg s = .next t ∧ exec .decmsg t = .next u ∧ u.result = .ok ∧
      u.msgId = s.msgId ∧ u.pwmValue = s.pwmValue ∧ u.rs = s.rs) ∧
  ∀ s t : State, s.halted = false → exec .decmsg s = .next t → t.result = .ok →
    ∃ u : State, exec .encmsg t = .next u ∧ u.result = .ok ∧ u.len = s.len ∧ u.buf = s.buf

/-- R171 (which the spec marks as derived): the send pipeline of one block and the receive pipeline of another with the
same `KEY` and `SCHEMA` deliver the message. -/
def Obligations.PipelineDeliversTheMessage : Prop :=
  ∀ s r : State, s.halted = false → r.halted = false → s.msgId = 0x01#8 ∨ s.msgId = 0x02#8 →
    r.params.key = s.params.key → r.params.schema = s.params.schema →
    ∃ s1 s2 : State, exec .encmsg s = .next s1 ∧ exec .encode s1 = .next s2 ∧ s2.result = .ok ∧
      (r.len = s2.len → (∀ (j : Nat) (h : j < 32), j < s2.len.toNat → r.buf[j] = s2.buf[j]) →
        ∃ r1 r2 : State, exec .decode r = .next r1 ∧ r1.result = .ok ∧ exec .decmsg r1 = .next r2 ∧ r2.result = .ok ∧
          r2.msgId = s.msgId ∧ (s.msgId = 0x01#8 → r2.pwmValue = s.pwmValue) ∧
          (s.msgId = 0x02#8 → ∀ (j : Nat) (h : j < 20), j < s.params.rsSize → r2.rs[j] = s.rs[j]))

/-! ## The annunciator -/

/-- R213, R219, R220: the preamble is the preamble pattern; sub-step `t` of bit `k` shows bit `t` of the mask of that
bit; every bit window starts lit and ends dark. -/
def Obligations.PatternPlaysTheCode : Prop :=
  ∀ (p : Params) (code : Byte), p.Valid →
    (∀ step : Nat, step < p.preLen → pattern p code step = p.prePattern.testBit step) ∧
    ∀ k : Nat, k < 8 →
      (∀ t : Nat, t < p.bitSteps → pattern p code (p.preLen + k * p.bitSteps + t) =
        if code.getLsbD k then p.mask1.testBit t else p.mask0.testBit t) ∧
      pattern p code (p.preLen + k * p.bitSteps) = true ∧
      pattern p code (p.preLen + (k + 1) * p.bitSteps - 1) = false

/-- R214, R217, R218, R221, R223, R233: a tick event, case by case. -/
def Obligations.TickEventByCases : Prop :=
  ∀ (s : State) (c : Tick) (e : Nat), c = s.tickCnt + 1#32 → e = (c - s.startTick).toNat → s.params.Valid →
    (s.active = false → s.halted = false → s.tickEvent = { s with tickCnt := c, led := false }) ∧
    (s.active = false → s.halted = true → s.tickEvent =
      { s with tickCnt := c, led := false, active := true, started := false, annCode := s.haltCode }) ∧
    (s.active = true → s.started = false → s.tickEvent =
      { s with tickCnt := c, startTick := c, started := true, led := pattern s.params s.annCode 0 }) ∧
    (s.active = true → s.started = true → e < s.params.patternTicks → s.tickEvent =
      { s with tickCnt := c, led := pattern s.params s.annCode (e / s.params.stepDiv) }) ∧
    (s.active = true → s.started = true → s.params.patternTicks ≤ e → s.halted = false → s.tickEvent =
      { s with tickCnt := c, active := false, started := false, led := false }) ∧
    (s.active = true → s.started = true → s.params.patternTicks ≤ e → s.halted = true → s.tickEvent =
      { s with tickCnt := c, active := true, started := false, led := false, annCode := s.haltCode })

/-- R214: a tick event touches only the schedule and the pin. -/
def Obligations.TickTouchesOnlyTheSchedule : Prop :=
  ∀ (s : State) (es : List Event) (t : State), s.inputs = .tick :: es → step s = .next t →
    t.tickCnt = s.tickCnt + 1#32 ∧ t.arg = s.arg ∧ t.len = s.len ∧ t.result = s.result ∧ t.crc = s.crc ∧
    t.halted = s.halted ∧ t.haltCode = s.haltCode ∧ t.msgId = s.msgId ∧ t.pwmValue = s.pwmValue ∧ t.rs = s.rs ∧
    t.buf = s.buf ∧ t.params = s.params ∧ t.inputs = es ∧ t.rdata = s.rdata ∧ t.resets = s.resets ∧
    (s.halted = false → t.annCode = s.annCode)

/-- R214, R254, by inference from their disjoint state: a tick event before a host access and one after it leave the
same state, unless the access is `REPORT`, `HALT`, a write of `CMD` that carries one of them, or an `RD` of
`ANN_STATUS` or `ANN_CODE`. -/
def Obligations.TicksCommuteWithCodec : Prop :=
  ∀ (i : Instr) (s : State), isCodec i = true →
    ∃ t : State, exec i s = .next t ∧ exec i s.tickEvent = .next t.tickEvent

/-- R225, R226 (which the spec marks as derived): an accepted report plays its code in full, whatever the host does
meanwhile, `HALT` and further reports included; only a reset could end it early. `TICKCNT` may wrap on the way (R227).
-/
def Obligations.AnnouncementPlaysInFull : Prop :=
  ∀ (s : State) (code : Byte) (es : List Event), s.params.Valid → s.JustAccepted code → Event.reset ∉ es →
    1 ≤ tickCount es → tickCount es ≤ s.params.patternTicks →
    ∃ t : State, core.run es.length { s with inputs := es } = .next t ∧ t.active = true ∧ t.annCode = code ∧
      t.led = pattern s.params code ((tickCount es - 1) / s.params.stepDiv)

/-- R221, R226, R233, R235 (R221, R226 and R235 marked as derived by the spec): the tick event after those that play
the pattern ends it: the pin is dark and the block is `Idle`, or, halted meanwhile, announces `HALT_CODE`. -/
def Obligations.AnnouncementCompletes : Prop :=
  ∀ (s : State) (code : Byte) (es : List Event), s.params.Valid → s.JustAccepted code → Event.reset ∉ es →
    tickCount es = s.params.patternTicks →
    ∃ t : State, core.run (es.length + 1) { s with inputs := es ++ [.tick] } = .next t ∧ t.led = false ∧
      (t.halted = false → t.active = false ∧ t.started = false ∧ t.annCode = code) ∧
      (t.halted = true → t.JustAccepted t.haltCode)

/-- R234 (which the spec marks as derived): the halted pattern repeats for ever with period `TOTAL_STEPS * STEP_DIV +
1`, whatever the host does. -/
def Obligations.HaltedPatternIsPeriodic : Prop :=
  ∀ (s : State) (es : List Event) (e : Nat), s.params.Valid → s.halted = true → s.JustAccepted s.haltCode →
    Event.reset ∉ es → 1 ≤ tickCount es → e = (tickCount es - 1) % (s.params.patternTicks + 1) →
    ∃ t : State, core.run es.length { s with inputs := es } = .next t ∧ t.halted = true ∧ t.haltCode = s.haltCode ∧
      t.led = if e < s.params.patternTicks then pattern s.params s.haltCode (e / s.params.stepDiv) else false

/-! ## Invariants -/

/-- R39 (which the spec marks as derived): every step, whatever its event, keeps the invariants. -/
def Obligations.StepKeepsTheInvariants : Prop :=
  ∀ s t : State, Inv s → step s = .next t → Inv t

/-- R39 (which the spec marks as derived), R40: the invariants and the tie between pin and schedule hold after reset,
for every instance and every draw. -/
def Obligations.InvariantsHoldAtReset : Prop :=
  (∀ (p : Params) (d : ResetDraw), Inv (State.resetOf p d) ∧ PinShowsSchedule (State.resetOf p d)) ∧
  Inv State.reset ∧ PinShowsSchedule State.reset

/-- R213, R214, R218, R223, by inference: every step keeps the tie between the pin and the schedule. -/
def Obligations.StepKeepsPinAndSchedule : Prop :=
  ∀ s t : State, PinShowsSchedule s → step s = .next t → PinShowsSchedule t

/-- R39 (which the spec marks as derived), whole, and by inference from R213, R214, R218, R223 the tie between the pin
and the schedule, of every state that a run from a reset can reach, for every instance and every draw. -/
def Obligations.ReachableStatesKeepTheInvariants : Prop :=
  ∀ s : State, Reachable s →
    (s.started = true → s.active = true) ∧ (s.active = false → s.led = false) ∧
    (∀ t : State, s.halted = true → s.inputs.head? ≠ some .reset → step s = .next t → t.halted = true) ∧
    s.result.toByte.toNat ≤ 4 ∧ (s.halted = true → s.tickEvent.active = true) ∧ PinShowsSchedule s

/-! ## The documented host -/

/-- R188, and by inference its monotony: `pwm_map` stays within the actuator's range, is monotone, and has the values
the rule works out. -/
def Obligations.PwmMapIsMonotoneInRange : Prop :=
  (∀ v : Int, 1000 ≤ pwmMap v ∧ pwmMap v ≤ 2000) ∧ (∀ v w : Int, v ≤ w → pwmMap v ≤ pwmMap w) ∧
  pwmMap 64 = 1752 ∧ pwmMap (-128) = 1000 ∧ pwmMap 127 = 2000 ∧ pwmMap 0 = 1501

/-- R184, R185, with the host of log entry 14: through one silence the actuator is forced at every iteration and one
`SafetyTimeout` is reported; first of step 1 alone, then of whole iterations of the loop, whatever the radio and the
other collaborators answer, as long as no valid `SetPwm` moves `lastValidCommandTick`. -/
def Obligations.FailsafeReportsOncePerSilence : Prop :=
  ∀ (h : HostParams) (l : Link), h.endpoint = .receiver → l.session.timeoutReported = false →
    (∀ nows : List Nat, nows ≠ [] →
      (∀ now ∈ nows, h.failsafeTimeout < now - l.session.lastValidCommandTick) →
      (nows.foldl (fun l now => l.failsafe h now) l).block = l.block.hostReport .safetyTimeout ∧
      (nows.foldl (fun l now => l.failsafe h now) l).actuator =
        l.actuator ++ List.replicate nows.length h.neutralUs ∧
      (nows.foldl (fun l now => l.failsafe h now) l).session = { l.session with timeoutReported := true }) ∧
    ∀ xs : List LoopInputs, l.phase = .loop → xs ≠ [] →
      (∀ x ∈ xs, h.failsafeTimeout < x.now - l.session.lastValidCommandTick) →
      (∀ k : Nat, k ≤ xs.length →
        (Link.run h (xs.take k) l).session.lastValidCommandTick = l.session.lastValidCommandTick) →
      (Link.run h xs l).session.timeoutReported = true ∧
      (Link.run h xs l).reports.count .safetyTimeout = l.reports.count .safetyTimeout + 1 ∧
      (Link.run h xs l).actuator = l.actuator ++ List.replicate xs.length h.neutralUs

/-- R171, R187, R190, R199 (scenario 1), with the host of log entry 14: the throttle value a transmitter sends sets the
pulse width at a receiver whose block has the same `KEY` and `SCHEMA`; the frame is handed to the radio whatever the
radio answers, and a failed send is reported. -/
def Obligations.ThrottleReachesTheActuator : Prop :=
  ∀ (ht hr : HostParams) (tx rx : Link) (sendAt recvAt : Nat) (v : Byte) (sendOk : Bool), ht.endpoint = .transmitter →
    hr.endpoint = .receiver → ht.periodSetPwm ≤ sendAt - tx.session.lastSentSetPwm → tx.block.halted = false →
    rx.block.halted = false → rx.block.params.key = tx.block.params.key →
    rx.block.params.schema = tx.block.params.schema →
    ∃ frame : List Byte, (Link.periodicSend ht sendAt v sendOk tx).sent = tx.sent ++ [⟨frame, false⟩] ∧
      (Link.periodicSend ht sendAt v sendOk tx).reports = tx.reports ++ (if sendOk then [] else [.ioFailure]) ∧
      (Link.receive hr recvAt (.frame frame) rx).actuator = rx.actuator ++ [pwmMap (asInt8 v)] ∧
      (Link.receive hr recvAt (.frame frame) rx).session.lastValidCommandTick = recvAt
end

