-- ==== Sys2Proof/Laws/State.lean ====
section
/-! SUPPORT. One lemma per field per named update of State: what each register write leaves in each field, true by
definition. -/

namespace Sys2Proof.Machine

variable (s : State)

/-! ### `setArg` -/

@[simp] theorem State.setArg_arg (v : Byte) : (s.setArg v).arg = v := rfl
@[simp] theorem State.setArg_len (v : Byte) : (s.setArg v).len = s.len := rfl
@[simp] theorem State.setArg_result (v : Byte) : (s.setArg v).result = s.result := rfl
@[simp] theorem State.setArg_crc (v : Byte) : (s.setArg v).crc = s.crc := rfl
@[simp] theorem State.setArg_active (v : Byte) : (s.setArg v).active = s.active := rfl
@[simp] theorem State.setArg_started (v : Byte) : (s.setArg v).started = s.started := rfl
@[simp] theorem State.setArg_halted (v : Byte) : (s.setArg v).halted = s.halted := rfl
@[simp] theorem State.setArg_led (v : Byte) : (s.setArg v).led = s.led := rfl
@[simp] theorem State.setArg_annCode (v : Byte) : (s.setArg v).annCode = s.annCode := rfl
@[simp] theorem State.setArg_haltCode (v : Byte) : (s.setArg v).haltCode = s.haltCode := rfl
@[simp] theorem State.setArg_msgId (v : Byte) : (s.setArg v).msgId = s.msgId := rfl
@[simp] theorem State.setArg_pwmValue (v : Byte) : (s.setArg v).pwmValue = s.pwmValue := rfl
@[simp] theorem State.setArg_rs (v : Byte) : (s.setArg v).rs = s.rs := rfl
@[simp] theorem State.setArg_buf (v : Byte) : (s.setArg v).buf = s.buf := rfl
@[simp] theorem State.setArg_tickCnt (v : Byte) : (s.setArg v).tickCnt = s.tickCnt := rfl
@[simp] theorem State.setArg_startTick (v : Byte) : (s.setArg v).startTick = s.startTick := rfl
@[simp] theorem State.setArg_params (v : Byte) : (s.setArg v).params = s.params := rfl
@[simp] theorem State.setArg_inputs (v : Byte) : (s.setArg v).inputs = s.inputs := rfl
@[simp] theorem State.setArg_rdata (v : Byte) : (s.setArg v).rdata = s.rdata := rfl
@[simp] theorem State.setArg_resets (v : Byte) : (s.setArg v).resets = s.resets := rfl

/-! ### `setLen` -/

@[simp] theorem State.setLen_arg (v : Byte) : (s.setLen v).arg = s.arg := rfl
@[simp] theorem State.setLen_len (v : Byte) : (s.setLen v).len = v := rfl
@[simp] theorem State.setLen_result (v : Byte) : (s.setLen v).result = s.result := rfl
@[simp] theorem State.setLen_crc (v : Byte) : (s.setLen v).crc = s.crc := rfl
@[simp] theorem State.setLen_active (v : Byte) : (s.setLen v).active = s.active := rfl
@[simp] theorem State.setLen_started (v : Byte) : (s.setLen v).started = s.started := rfl
@[simp] theorem State.setLen_halted (v : Byte) : (s.setLen v).halted = s.halted := rfl
@[simp] theorem State.setLen_led (v : Byte) : (s.setLen v).led = s.led := rfl
@[simp] theorem State.setLen_annCode (v : Byte) : (s.setLen v).annCode = s.annCode := rfl
@[simp] theorem State.setLen_haltCode (v : Byte) : (s.setLen v).haltCode = s.haltCode := rfl
@[simp] theorem State.setLen_msgId (v : Byte) : (s.setLen v).msgId = s.msgId := rfl
@[simp] theorem State.setLen_pwmValue (v : Byte) : (s.setLen v).pwmValue = s.pwmValue := rfl
@[simp] theorem State.setLen_rs (v : Byte) : (s.setLen v).rs = s.rs := rfl
@[simp] theorem State.setLen_buf (v : Byte) : (s.setLen v).buf = s.buf := rfl
@[simp] theorem State.setLen_tickCnt (v : Byte) : (s.setLen v).tickCnt = s.tickCnt := rfl
@[simp] theorem State.setLen_startTick (v : Byte) : (s.setLen v).startTick = s.startTick := rfl
@[simp] theorem State.setLen_params (v : Byte) : (s.setLen v).params = s.params := rfl
@[simp] theorem State.setLen_inputs (v : Byte) : (s.setLen v).inputs = s.inputs := rfl
@[simp] theorem State.setLen_rdata (v : Byte) : (s.setLen v).rdata = s.rdata := rfl
@[simp] theorem State.setLen_resets (v : Byte) : (s.setLen v).resets = s.resets := rfl

/-! ### `setResult` -/

@[simp] theorem State.setResult_arg (c : ResultCode) : (s.setResult c).arg = s.arg := rfl
@[simp] theorem State.setResult_len (c : ResultCode) : (s.setResult c).len = s.len := rfl
@[simp] theorem State.setResult_result (c : ResultCode) : (s.setResult c).result = c := rfl
@[simp] theorem State.setResult_crc (c : ResultCode) : (s.setResult c).crc = s.crc := rfl
@[simp] theorem State.setResult_active (c : ResultCode) : (s.setResult c).active = s.active := rfl
@[simp] theorem State.setResult_started (c : ResultCode) : (s.setResult c).started = s.started := rfl
@[simp] theorem State.setResult_halted (c : ResultCode) : (s.setResult c).halted = s.halted := rfl
@[simp] theorem State.setResult_led (c : ResultCode) : (s.setResult c).led = s.led := rfl
@[simp] theorem State.setResult_annCode (c : ResultCode) : (s.setResult c).annCode = s.annCode := rfl
@[simp] theorem State.setResult_haltCode (c : ResultCode) : (s.setResult c).haltCode = s.haltCode := rfl
@[simp] theorem State.setResult_msgId (c : ResultCode) : (s.setResult c).msgId = s.msgId := rfl
@[simp] theorem State.setResult_pwmValue (c : ResultCode) : (s.setResult c).pwmValue = s.pwmValue := rfl
@[simp] theorem State.setResult_rs (c : ResultCode) : (s.setResult c).rs = s.rs := rfl
@[simp] theorem State.setResult_buf (c : ResultCode) : (s.setResult c).buf = s.buf := rfl
@[simp] theorem State.setResult_tickCnt (c : ResultCode) : (s.setResult c).tickCnt = s.tickCnt := rfl
@[simp] theorem State.setResult_startTick (c : ResultCode) : (s.setResult c).startTick = s.startTick := rfl
@[simp] theorem State.setResult_params (c : ResultCode) : (s.setResult c).params = s.params := rfl
@[simp] theorem State.setResult_inputs (c : ResultCode) : (s.setResult c).inputs = s.inputs := rfl
@[simp] theorem State.setResult_rdata (c : ResultCode) : (s.setResult c).rdata = s.rdata := rfl
@[simp] theorem State.setResult_resets (c : ResultCode) : (s.setResult c).resets = s.resets := rfl

/-! ### `setCrc` -/

@[simp] theorem State.setCrc_arg (v : Byte) : (s.setCrc v).arg = s.arg := rfl
@[simp] theorem State.setCrc_len (v : Byte) : (s.setCrc v).len = s.len := rfl
@[simp] theorem State.setCrc_result (v : Byte) : (s.setCrc v).result = s.result := rfl
@[simp] theorem State.setCrc_crc (v : Byte) : (s.setCrc v).crc = v := rfl
@[simp] theorem State.setCrc_active (v : Byte) : (s.setCrc v).active = s.active := rfl
@[simp] theorem State.setCrc_started (v : Byte) : (s.setCrc v).started = s.started := rfl
@[simp] theorem State.setCrc_halted (v : Byte) : (s.setCrc v).halted = s.halted := rfl
@[simp] theorem State.setCrc_led (v : Byte) : (s.setCrc v).led = s.led := rfl
@[simp] theorem State.setCrc_annCode (v : Byte) : (s.setCrc v).annCode = s.annCode := rfl
@[simp] theorem State.setCrc_haltCode (v : Byte) : (s.setCrc v).haltCode = s.haltCode := rfl
@[simp] theorem State.setCrc_msgId (v : Byte) : (s.setCrc v).msgId = s.msgId := rfl
@[simp] theorem State.setCrc_pwmValue (v : Byte) : (s.setCrc v).pwmValue = s.pwmValue := rfl
@[simp] theorem State.setCrc_rs (v : Byte) : (s.setCrc v).rs = s.rs := rfl
@[simp] theorem State.setCrc_buf (v : Byte) : (s.setCrc v).buf = s.buf := rfl
@[simp] theorem State.setCrc_tickCnt (v : Byte) : (s.setCrc v).tickCnt = s.tickCnt := rfl
@[simp] theorem State.setCrc_startTick (v : Byte) : (s.setCrc v).startTick = s.startTick := rfl
@[simp] theorem State.setCrc_params (v : Byte) : (s.setCrc v).params = s.params := rfl
@[simp] theorem State.setCrc_inputs (v : Byte) : (s.setCrc v).inputs = s.inputs := rfl
@[simp] theorem State.setCrc_rdata (v : Byte) : (s.setCrc v).rdata = s.rdata := rfl
@[simp] theorem State.setCrc_resets (v : Byte) : (s.setCrc v).resets = s.resets := rfl

/-! ### `setMsgId` -/

@[simp] theorem State.setMsgId_arg (v : Byte) : (s.setMsgId v).arg = s.arg := rfl
@[simp] theorem State.setMsgId_len (v : Byte) : (s.setMsgId v).len = s.len := rfl
@[simp] theorem State.setMsgId_result (v : Byte) : (s.setMsgId v).result = s.result := rfl
@[simp] theorem State.setMsgId_crc (v : Byte) : (s.setMsgId v).crc = s.crc := rfl
@[simp] theorem State.setMsgId_active (v : Byte) : (s.setMsgId v).active = s.active := rfl
@[simp] theorem State.setMsgId_started (v : Byte) : (s.setMsgId v).started = s.started := rfl
@[simp] theorem State.setMsgId_halted (v : Byte) : (s.setMsgId v).halted = s.halted := rfl
@[simp] theorem State.setMsgId_led (v : Byte) : (s.setMsgId v).led = s.led := rfl
@[simp] theorem State.setMsgId_annCode (v : Byte) : (s.setMsgId v).annCode = s.annCode := rfl
@[simp] theorem State.setMsgId_haltCode (v : Byte) : (s.setMsgId v).haltCode = s.haltCode := rfl
@[simp] theorem State.setMsgId_msgId (v : Byte) : (s.setMsgId v).msgId = v := rfl
@[simp] theorem State.setMsgId_pwmValue (v : Byte) : (s.setMsgId v).pwmValue = s.pwmValue := rfl
@[simp] theorem State.setMsgId_rs (v : Byte) : (s.setMsgId v).rs = s.rs := rfl
@[simp] theorem State.setMsgId_buf (v : Byte) : (s.setMsgId v).buf = s.buf := rfl
@[simp] theorem State.setMsgId_tickCnt (v : Byte) : (s.setMsgId v).tickCnt = s.tickCnt := rfl
@[simp] theorem State.setMsgId_startTick (v : Byte) : (s.setMsgId v).startTick = s.startTick := rfl
@[simp] theorem State.setMsgId_params (v : Byte) : (s.setMsgId v).params = s.params := rfl
@[simp] theorem State.setMsgId_inputs (v : Byte) : (s.setMsgId v).inputs = s.inputs := rfl
@[simp] theorem State.setMsgId_rdata (v : Byte) : (s.setMsgId v).rdata = s.rdata := rfl
@[simp] theorem State.setMsgId_resets (v : Byte) : (s.setMsgId v).resets = s.resets := rfl

/-! ### `setPwmValue` -/

@[simp] theorem State.setPwmValue_arg (v : Byte) : (s.setPwmValue v).arg = s.arg := rfl
@[simp] theorem State.setPwmValue_len (v : Byte) : (s.setPwmValue v).len = s.len := rfl
@[simp] theorem State.setPwmValue_result (v : Byte) : (s.setPwmValue v).result = s.result := rfl
@[simp] theorem State.setPwmValue_crc (v : Byte) : (s.setPwmValue v).crc = s.crc := rfl
@[simp] theorem State.setPwmValue_active (v : Byte) : (s.setPwmValue v).active = s.active := rfl
@[simp] theorem State.setPwmValue_started (v : Byte) : (s.setPwmValue v).started = s.started := rfl
@[simp] theorem State.setPwmValue_halted (v : Byte) : (s.setPwmValue v).halted = s.halted := rfl
@[simp] theorem State.setPwmValue_led (v : Byte) : (s.setPwmValue v).led = s.led := rfl
@[simp] theorem State.setPwmValue_annCode (v : Byte) : (s.setPwmValue v).annCode = s.annCode := rfl
@[simp] theorem State.setPwmValue_haltCode (v : Byte) : (s.setPwmValue v).haltCode = s.haltCode := rfl
@[simp] theorem State.setPwmValue_msgId (v : Byte) : (s.setPwmValue v).msgId = s.msgId := rfl
@[simp] theorem State.setPwmValue_pwmValue (v : Byte) : (s.setPwmValue v).pwmValue = v := rfl
@[simp] theorem State.setPwmValue_rs (v : Byte) : (s.setPwmValue v).rs = s.rs := rfl
@[simp] theorem State.setPwmValue_buf (v : Byte) : (s.setPwmValue v).buf = s.buf := rfl
@[simp] theorem State.setPwmValue_tickCnt (v : Byte) : (s.setPwmValue v).tickCnt = s.tickCnt := rfl
@[simp] theorem State.setPwmValue_startTick (v : Byte) : (s.setPwmValue v).startTick = s.startTick := rfl
@[simp] theorem State.setPwmValue_params (v : Byte) : (s.setPwmValue v).params = s.params := rfl
@[simp] theorem State.setPwmValue_inputs (v : Byte) : (s.setPwmValue v).inputs = s.inputs := rfl
@[simp] theorem State.setPwmValue_rdata (v : Byte) : (s.setPwmValue v).rdata = s.rdata := rfl
@[simp] theorem State.setPwmValue_resets (v : Byte) : (s.setPwmValue v).resets = s.resets := rfl

/-! ### `setRs` -/

@[simp] theorem State.setRs_arg (v : Vector Byte 20) : (s.setRs v).arg = s.arg := rfl
@[simp] theorem State.setRs_len (v : Vector Byte 20) : (s.setRs v).len = s.len := rfl
@[simp] theorem State.setRs_result (v : Vector Byte 20) : (s.setRs v).result = s.result := rfl
@[simp] theorem State.setRs_crc (v : Vector Byte 20) : (s.setRs v).crc = s.crc := rfl
@[simp] theorem State.setRs_active (v : Vector Byte 20) : (s.setRs v).active = s.active := rfl
@[simp] theorem State.setRs_started (v : Vector Byte 20) : (s.setRs v).started = s.started := rfl
@[simp] theorem State.setRs_halted (v : Vector Byte 20) : (s.setRs v).halted = s.halted := rfl
@[simp] theorem State.setRs_led (v : Vector Byte 20) : (s.setRs v).led = s.led := rfl
@[simp] theorem State.setRs_annCode (v : Vector Byte 20) : (s.setRs v).annCode = s.annCode := rfl
@[simp] theorem State.setRs_haltCode (v : Vector Byte 20) : (s.setRs v).haltCode = s.haltCode := rfl
@[simp] theorem State.setRs_msgId (v : Vector Byte 20) : (s.setRs v).msgId = s.msgId := rfl
@[simp] theorem State.setRs_pwmValue (v : Vector Byte 20) : (s.setRs v).pwmValue = s.pwmValue := rfl
@[simp] theorem State.setRs_rs (v : Vector Byte 20) : (s.setRs v).rs = v := rfl
@[simp] theorem State.setRs_buf (v : Vector Byte 20) : (s.setRs v).buf = s.buf := rfl
@[simp] theorem State.setRs_tickCnt (v : Vector Byte 20) : (s.setRs v).tickCnt = s.tickCnt := rfl
@[simp] theorem State.setRs_startTick (v : Vector Byte 20) : (s.setRs v).startTick = s.startTick := rfl
@[simp] theorem State.setRs_params (v : Vector Byte 20) : (s.setRs v).params = s.params := rfl
@[simp] theorem State.setRs_inputs (v : Vector Byte 20) : (s.setRs v).inputs = s.inputs := rfl
@[simp] theorem State.setRs_rdata (v : Vector Byte 20) : (s.setRs v).rdata = s.rdata := rfl
@[simp] theorem State.setRs_resets (v : Vector Byte 20) : (s.setRs v).resets = s.resets := rfl

/-! ### `setBuf` -/

@[simp] theorem State.setBuf_arg (v : Vector Byte 32) : (s.setBuf v).arg = s.arg := rfl
@[simp] theorem State.setBuf_len (v : Vector Byte 32) : (s.setBuf v).len = s.len := rfl
@[simp] theorem State.setBuf_result (v : Vector Byte 32) : (s.setBuf v).result = s.result := rfl
@[simp] theorem State.setBuf_crc (v : Vector Byte 32) : (s.setBuf v).crc = s.crc := rfl
@[simp] theorem State.setBuf_active (v : Vector Byte 32) : (s.setBuf v).active = s.active := rfl
@[simp] theorem State.setBuf_started (v : Vector Byte 32) : (s.setBuf v).started = s.started := rfl
@[simp] theorem State.setBuf_halted (v : Vector Byte 32) : (s.setBuf v).halted = s.halted := rfl
@[simp] theorem State.setBuf_led (v : Vector Byte 32) : (s.setBuf v).led = s.led := rfl
@[simp] theorem State.setBuf_annCode (v : Vector Byte 32) : (s.setBuf v).annCode = s.annCode := rfl
@[simp] theorem State.setBuf_haltCode (v : Vector Byte 32) : (s.setBuf v).haltCode = s.haltCode := rfl
@[simp] theorem State.setBuf_msgId (v : Vector Byte 32) : (s.setBuf v).msgId = s.msgId := rfl
@[simp] theorem State.setBuf_pwmValue (v : Vector Byte 32) : (s.setBuf v).pwmValue = s.pwmValue := rfl
@[simp] theorem State.setBuf_rs (v : Vector Byte 32) : (s.setBuf v).rs = s.rs := rfl
@[simp] theorem State.setBuf_buf (v : Vector Byte 32) : (s.setBuf v).buf = v := rfl
@[simp] theorem State.setBuf_tickCnt (v : Vector Byte 32) : (s.setBuf v).tickCnt = s.tickCnt := rfl
@[simp] theorem State.setBuf_startTick (v : Vector Byte 32) : (s.setBuf v).startTick = s.startTick := rfl
@[simp] theorem State.setBuf_params (v : Vector Byte 32) : (s.setBuf v).params = s.params := rfl
@[simp] theorem State.setBuf_inputs (v : Vector Byte 32) : (s.setBuf v).inputs = s.inputs := rfl
@[simp] theorem State.setBuf_rdata (v : Vector Byte 32) : (s.setBuf v).rdata = s.rdata := rfl
@[simp] theorem State.setBuf_resets (v : Vector Byte 32) : (s.setBuf v).resets = s.resets := rfl

/-! ### `setHaltCode` -/

@[simp] theorem State.setHaltCode_arg (v : Byte) : (s.setHaltCode v).arg = s.arg := rfl
@[simp] theorem State.setHaltCode_len (v : Byte) : (s.setHaltCode v).len = s.len := rfl
@[simp] theorem State.setHaltCode_result (v : Byte) : (s.setHaltCode v).result = s.result := rfl
@[simp] theorem State.setHaltCode_crc (v : Byte) : (s.setHaltCode v).crc = s.crc := rfl
@[simp] theorem State.setHaltCode_active (v : Byte) : (s.setHaltCode v).active = s.active := rfl
@[simp] theorem State.setHaltCode_started (v : Byte) : (s.setHaltCode v).started = s.started := rfl
@[simp] theorem State.setHaltCode_halted (v : Byte) : (s.setHaltCode v).halted = s.halted := rfl
@[simp] theorem State.setHaltCode_led (v : Byte) : (s.setHaltCode v).led = s.led := rfl
@[simp] theorem State.setHaltCode_annCode (v : Byte) : (s.setHaltCode v).annCode = s.annCode := rfl
@[simp] theorem State.setHaltCode_haltCode (v : Byte) : (s.setHaltCode v).haltCode = v := rfl
@[simp] theorem State.setHaltCode_msgId (v : Byte) : (s.setHaltCode v).msgId = s.msgId := rfl
@[simp] theorem State.setHaltCode_pwmValue (v : Byte) : (s.setHaltCode v).pwmValue = s.pwmValue := rfl
@[simp] theorem State.setHaltCode_rs (v : Byte) : (s.setHaltCode v).rs = s.rs := rfl
@[simp] theorem State.setHaltCode_buf (v : Byte) : (s.setHaltCode v).buf = s.buf := rfl
@[simp] theorem State.setHaltCode_tickCnt (v : Byte) : (s.setHaltCode v).tickCnt = s.tickCnt := rfl
@[simp] theorem State.setHaltCode_startTick (v : Byte) : (s.setHaltCode v).startTick = s.startTick := rfl
@[simp] theorem State.setHaltCode_params (v : Byte) : (s.setHaltCode v).params = s.params := rfl
@[simp] theorem State.setHaltCode_inputs (v : Byte) : (s.setHaltCode v).inputs = s.inputs := rfl
@[simp] theorem State.setHaltCode_rdata (v : Byte) : (s.setHaltCode v).rdata = s.rdata := rfl
@[simp] theorem State.setHaltCode_resets (v : Byte) : (s.setHaltCode v).resets = s.resets := rfl

/-! ### `setHalted` -/

@[simp] theorem State.setHalted_arg : (s.setHalted).arg = s.arg := rfl
@[simp] theorem State.setHalted_len : (s.setHalted).len = s.len := rfl
@[simp] theorem State.setHalted_result : (s.setHalted).result = s.result := rfl
@[simp] theorem State.setHalted_crc : (s.setHalted).crc = s.crc := rfl
@[simp] theorem State.setHalted_active : (s.setHalted).active = s.active := rfl
@[simp] theorem State.setHalted_started : (s.setHalted).started = s.started := rfl
@[simp] theorem State.setHalted_halted : (s.setHalted).halted = true := rfl
@[simp] theorem State.setHalted_led : (s.setHalted).led = s.led := rfl
@[simp] theorem State.setHalted_annCode : (s.setHalted).annCode = s.annCode := rfl
@[simp] theorem State.setHalted_haltCode : (s.setHalted).haltCode = s.haltCode := rfl
@[simp] theorem State.setHalted_msgId : (s.setHalted).msgId = s.msgId := rfl
@[simp] theorem State.setHalted_pwmValue : (s.setHalted).pwmValue = s.pwmValue := rfl
@[simp] theorem State.setHalted_rs : (s.setHalted).rs = s.rs := rfl
@[simp] theorem State.setHalted_buf : (s.setHalted).buf = s.buf := rfl
@[simp] theorem State.setHalted_tickCnt : (s.setHalted).tickCnt = s.tickCnt := rfl
@[simp] theorem State.setHalted_startTick : (s.setHalted).startTick = s.startTick := rfl
@[simp] theorem State.setHalted_params : (s.setHalted).params = s.params := rfl
@[simp] theorem State.setHalted_inputs : (s.setHalted).inputs = s.inputs := rfl
@[simp] theorem State.setHalted_rdata : (s.setHalted).rdata = s.rdata := rfl
@[simp] theorem State.setHalted_resets : (s.setHalted).resets = s.resets := rfl

/-! ### `setTickCnt` -/

@[simp] theorem State.setTickCnt_arg (v : Tick) : (s.setTickCnt v).arg = s.arg := rfl
@[simp] theorem State.setTickCnt_len (v : Tick) : (s.setTickCnt v).len = s.len := rfl
@[simp] theorem State.setTickCnt_result (v : Tick) : (s.setTickCnt v).result = s.result := rfl
@[simp] theorem State.setTickCnt_crc (v : Tick) : (s.setTickCnt v).crc = s.crc := rfl
@[simp] theorem State.setTickCnt_active (v : Tick) : (s.setTickCnt v).active = s.active := rfl
@[simp] theorem State.setTickCnt_started (v : Tick) : (s.setTickCnt v).started = s.started := rfl
@[simp] theorem State.setTickCnt_halted (v : Tick) : (s.setTickCnt v).halted = s.halted := rfl
@[simp] theorem State.setTickCnt_led (v : Tick) : (s.setTickCnt v).led = s.led := rfl
@[simp] theorem State.setTickCnt_annCode (v : Tick) : (s.setTickCnt v).annCode = s.annCode := rfl
@[simp] theorem State.setTickCnt_haltCode (v : Tick) : (s.setTickCnt v).haltCode = s.haltCode := rfl
@[simp] theorem State.setTickCnt_msgId (v : Tick) : (s.setTickCnt v).msgId = s.msgId := rfl
@[simp] theorem State.setTickCnt_pwmValue (v : Tick) : (s.setTickCnt v).pwmValue = s.pwmValue := rfl
@[simp] theorem State.setTickCnt_rs (v : Tick) : (s.setTickCnt v).rs = s.rs := rfl
@[simp] theorem State.setTickCnt_buf (v : Tick) : (s.setTickCnt v).buf = s.buf := rfl
@[simp] theorem State.setTickCnt_tickCnt (v : Tick) : (s.setTickCnt v).tickCnt = v := rfl
@[simp] theorem State.setTickCnt_startTick (v : Tick) : (s.setTickCnt v).startTick = s.startTick := rfl
@[simp] theorem State.setTickCnt_params (v : Tick) : (s.setTickCnt v).params = s.params := rfl
@[simp] theorem State.setTickCnt_inputs (v : Tick) : (s.setTickCnt v).inputs = s.inputs := rfl
@[simp] theorem State.setTickCnt_rdata (v : Tick) : (s.setTickCnt v).rdata = s.rdata := rfl
@[simp] theorem State.setTickCnt_resets (v : Tick) : (s.setTickCnt v).resets = s.resets := rfl

/-! ### `setStart` -/

@[simp] theorem State.setStart_arg (v : Tick) : (s.setStart v).arg = s.arg := rfl
@[simp] theorem State.setStart_len (v : Tick) : (s.setStart v).len = s.len := rfl
@[simp] theorem State.setStart_result (v : Tick) : (s.setStart v).result = s.result := rfl
@[simp] theorem State.setStart_crc (v : Tick) : (s.setStart v).crc = s.crc := rfl
@[simp] theorem State.setStart_active (v : Tick) : (s.setStart v).active = s.active := rfl
@[simp] theorem State.setStart_started (v : Tick) : (s.setStart v).started = true := rfl
@[simp] theorem State.setStart_halted (v : Tick) : (s.setStart v).halted = s.halted := rfl
@[simp] theorem State.setStart_led (v : Tick) : (s.setStart v).led = s.led := rfl
@[simp] theorem State.setStart_annCode (v : Tick) : (s.setStart v).annCode = s.annCode := rfl
@[simp] theorem State.setStart_haltCode (v : Tick) : (s.setStart v).haltCode = s.haltCode := rfl
@[simp] theorem State.setStart_msgId (v : Tick) : (s.setStart v).msgId = s.msgId := rfl
@[simp] theorem State.setStart_pwmValue (v : Tick) : (s.setStart v).pwmValue = s.pwmValue := rfl
@[simp] theorem State.setStart_rs (v : Tick) : (s.setStart v).rs = s.rs := rfl
@[simp] theorem State.setStart_buf (v : Tick) : (s.setStart v).buf = s.buf := rfl
@[simp] theorem State.setStart_tickCnt (v : Tick) : (s.setStart v).tickCnt = s.tickCnt := rfl
@[simp] theorem State.setStart_startTick (v : Tick) : (s.setStart v).startTick = v := rfl
@[simp] theorem State.setStart_params (v : Tick) : (s.setStart v).params = s.params := rfl
@[simp] theorem State.setStart_inputs (v : Tick) : (s.setStart v).inputs = s.inputs := rfl
@[simp] theorem State.setStart_rdata (v : Tick) : (s.setStart v).rdata = s.rdata := rfl
@[simp] theorem State.setStart_resets (v : Tick) : (s.setStart v).resets = s.resets := rfl

/-! ### `setLed` -/

@[simp] theorem State.setLed_arg (v : Bool) : (s.setLed v).arg = s.arg := rfl
@[simp] theorem State.setLed_len (v : Bool) : (s.setLed v).len = s.len := rfl
@[simp] theorem State.setLed_result (v : Bool) : (s.setLed v).result = s.result := rfl
@[simp] theorem State.setLed_crc (v : Bool) : (s.setLed v).crc = s.crc := rfl
@[simp] theorem State.setLed_active (v : Bool) : (s.setLed v).active = s.active := rfl
@[simp] theorem State.setLed_started (v : Bool) : (s.setLed v).started = s.started := rfl
@[simp] theorem State.setLed_halted (v : Bool) : (s.setLed v).halted = s.halted := rfl
@[simp] theorem State.setLed_led (v : Bool) : (s.setLed v).led = v := rfl
@[simp] theorem State.setLed_annCode (v : Bool) : (s.setLed v).annCode = s.annCode := rfl
@[simp] theorem State.setLed_haltCode (v : Bool) : (s.setLed v).haltCode = s.haltCode := rfl
@[simp] theorem State.setLed_msgId (v : Bool) : (s.setLed v).msgId = s.msgId := rfl
@[simp] theorem State.setLed_pwmValue (v : Bool) : (s.setLed v).pwmValue = s.pwmValue := rfl
@[simp] theorem State.setLed_rs (v : Bool) : (s.setLed v).rs = s.rs := rfl
@[simp] theorem State.setLed_buf (v : Bool) : (s.setLed v).buf = s.buf := rfl
@[simp] theorem State.setLed_tickCnt (v : Bool) : (s.setLed v).tickCnt = s.tickCnt := rfl
@[simp] theorem State.setLed_startTick (v : Bool) : (s.setLed v).startTick = s.startTick := rfl
@[simp] theorem State.setLed_params (v : Bool) : (s.setLed v).params = s.params := rfl
@[simp] theorem State.setLed_inputs (v : Bool) : (s.setLed v).inputs = s.inputs := rfl
@[simp] theorem State.setLed_rdata (v : Bool) : (s.setLed v).rdata = s.rdata := rfl
@[simp] theorem State.setLed_resets (v : Bool) : (s.setLed v).resets = s.resets := rfl

/-! ### `accept` -/

@[simp] theorem State.accept_arg (c : Byte) : (s.accept c).arg = s.arg := rfl
@[simp] theorem State.accept_len (c : Byte) : (s.accept c).len = s.len := rfl
@[simp] theorem State.accept_result (c : Byte) : (s.accept c).result = s.result := rfl
@[simp] theorem State.accept_crc (c : Byte) : (s.accept c).crc = s.crc := rfl
@[simp] theorem State.accept_active (c : Byte) : (s.accept c).active = true := rfl
@[simp] theorem State.accept_started (c : Byte) : (s.accept c).started = false := rfl
@[simp] theorem State.accept_halted (c : Byte) : (s.accept c).halted = s.halted := rfl
@[simp] theorem State.accept_led (c : Byte) : (s.accept c).led = s.led := rfl
@[simp] theorem State.accept_annCode (c : Byte) : (s.accept c).annCode = c := rfl
@[simp] theorem State.accept_haltCode (c : Byte) : (s.accept c).haltCode = s.haltCode := rfl
@[simp] theorem State.accept_msgId (c : Byte) : (s.accept c).msgId = s.msgId := rfl
@[simp] theorem State.accept_pwmValue (c : Byte) : (s.accept c).pwmValue = s.pwmValue := rfl
@[simp] theorem State.accept_rs (c : Byte) : (s.accept c).rs = s.rs := rfl
@[simp] theorem State.accept_buf (c : Byte) : (s.accept c).buf = s.buf := rfl
@[simp] theorem State.accept_tickCnt (c : Byte) : (s.accept c).tickCnt = s.tickCnt := rfl
@[simp] theorem State.accept_startTick (c : Byte) : (s.accept c).startTick = s.startTick := rfl
@[simp] theorem State.accept_params (c : Byte) : (s.accept c).params = s.params := rfl
@[simp] theorem State.accept_inputs (c : Byte) : (s.accept c).inputs = s.inputs := rfl
@[simp] theorem State.accept_rdata (c : Byte) : (s.accept c).rdata = s.rdata := rfl
@[simp] theorem State.accept_resets (c : Byte) : (s.accept c).resets = s.resets := rfl

/-! ### `complete` -/

@[simp] theorem State.complete_arg : (s.complete).arg = s.arg := rfl
@[simp] theorem State.complete_len : (s.complete).len = s.len := rfl
@[simp] theorem State.complete_result : (s.complete).result = s.result := rfl
@[simp] theorem State.complete_crc : (s.complete).crc = s.crc := rfl
@[simp] theorem State.complete_active : (s.complete).active = false := rfl
@[simp] theorem State.complete_started : (s.complete).started = false := rfl
@[simp] theorem State.complete_halted : (s.complete).halted = s.halted := rfl
@[simp] theorem State.complete_led : (s.complete).led = false := rfl
@[simp] theorem State.complete_annCode : (s.complete).annCode = s.annCode := rfl
@[simp] theorem State.complete_haltCode : (s.complete).haltCode = s.haltCode := rfl
@[simp] theorem State.complete_msgId : (s.complete).msgId = s.msgId := rfl
@[simp] theorem State.complete_pwmValue : (s.complete).pwmValue = s.pwmValue := rfl
@[simp] theorem State.complete_rs : (s.complete).rs = s.rs := rfl
@[simp] theorem State.complete_buf : (s.complete).buf = s.buf := rfl
@[simp] theorem State.complete_tickCnt : (s.complete).tickCnt = s.tickCnt := rfl
@[simp] theorem State.complete_startTick : (s.complete).startTick = s.startTick := rfl
@[simp] theorem State.complete_params : (s.complete).params = s.params := rfl
@[simp] theorem State.complete_inputs : (s.complete).inputs = s.inputs := rfl
@[simp] theorem State.complete_rdata : (s.complete).rdata = s.rdata := rfl
@[simp] theorem State.complete_resets : (s.complete).resets = s.resets := rfl

/-! ### `setRdata` -/

@[simp] theorem State.setRdata_arg (v : Byte) : (s.setRdata v).arg = s.arg := rfl
@[simp] theorem State.setRdata_len (v : Byte) : (s.setRdata v).len = s.len := rfl
@[simp] theorem State.setRdata_result (v : Byte) : (s.setRdata v).result = s.result := rfl
@[simp] theorem State.setRdata_crc (v : Byte) : (s.setRdata v).crc = s.crc := rfl
@[simp] theorem State.setRdata_active (v : Byte) : (s.setRdata v).active = s.active := rfl
@[simp] theorem State.setRdata_started (v : Byte) : (s.setRdata v).started = s.started := rfl
@[simp] theorem State.setRdata_halted (v : Byte) : (s.setRdata v).halted = s.halted := rfl
@[simp] theorem State.setRdata_led (v : Byte) : (s.setRdata v).led = s.led := rfl
@[simp] theorem State.setRdata_annCode (v : Byte) : (s.setRdata v).annCode = s.annCode := rfl
@[simp] theorem State.setRdata_haltCode (v : Byte) : (s.setRdata v).haltCode = s.haltCode := rfl
@[simp] theorem State.setRdata_msgId (v : Byte) : (s.setRdata v).msgId = s.msgId := rfl
@[simp] theorem State.setRdata_pwmValue (v : Byte) : (s.setRdata v).pwmValue = s.pwmValue := rfl
@[simp] theorem State.setRdata_rs (v : Byte) : (s.setRdata v).rs = s.rs := rfl
@[simp] theorem State.setRdata_buf (v : Byte) : (s.setRdata v).buf = s.buf := rfl
@[simp] theorem State.setRdata_tickCnt (v : Byte) : (s.setRdata v).tickCnt = s.tickCnt := rfl
@[simp] theorem State.setRdata_startTick (v : Byte) : (s.setRdata v).startTick = s.startTick := rfl
@[simp] theorem State.setRdata_params (v : Byte) : (s.setRdata v).params = s.params := rfl
@[simp] theorem State.setRdata_inputs (v : Byte) : (s.setRdata v).inputs = s.inputs := rfl
@[simp] theorem State.setRdata_rdata (v : Byte) : (s.setRdata v).rdata = some v := rfl
@[simp] theorem State.setRdata_resets (v : Byte) : (s.setRdata v).resets = s.resets := rfl

/-! ### `setInputs` -/

@[simp] theorem State.setInputs_arg (es : List Event) : (s.setInputs es).arg = s.arg := rfl
@[simp] theorem State.setInputs_len (es : List Event) : (s.setInputs es).len = s.len := rfl
@[simp] theorem State.setInputs_result (es : List Event) : (s.setInputs es).result = s.result := rfl
@[simp] theorem State.setInputs_crc (es : List Event) : (s.setInputs es).crc = s.crc := rfl
@[simp] theorem State.setInputs_active (es : List Event) : (s.setInputs es).active = s.active := rfl
@[simp] theorem State.setInputs_started (es : List Event) : (s.setInputs es).started = s.started := rfl
@[simp] theorem State.setInputs_halted (es : List Event) : (s.setInputs es).halted = s.halted := rfl
@[simp] theorem State.setInputs_led (es : List Event) : (s.setInputs es).led = s.led := rfl
@[simp] theorem State.setInputs_annCode (es : List Event) : (s.setInputs es).annCode = s.annCode := rfl
@[simp] theorem State.setInputs_haltCode (es : List Event) : (s.setInputs es).haltCode = s.haltCode := rfl
@[simp] theorem State.setInputs_msgId (es : List Event) : (s.setInputs es).msgId = s.msgId := rfl
@[simp] theorem State.setInputs_pwmValue (es : List Event) : (s.setInputs es).pwmValue = s.pwmValue := rfl
@[simp] theorem State.setInputs_rs (es : List Event) : (s.setInputs es).rs = s.rs := rfl
@[simp] theorem State.setInputs_buf (es : List Event) : (s.setInputs es).buf = s.buf := rfl
@[simp] theorem State.setInputs_tickCnt (es : List Event) : (s.setInputs es).tickCnt = s.tickCnt := rfl
@[simp] theorem State.setInputs_startTick (es : List Event) : (s.setInputs es).startTick = s.startTick := rfl
@[simp] theorem State.setInputs_params (es : List Event) : (s.setInputs es).params = s.params := rfl
@[simp] theorem State.setInputs_inputs (es : List Event) : (s.setInputs es).inputs = es := rfl
@[simp] theorem State.setInputs_rdata (es : List Event) : (s.setInputs es).rdata = s.rdata := rfl
@[simp] theorem State.setInputs_resets (es : List Event) : (s.setInputs es).resets = s.resets := rfl

/-! ### `raise` -/

@[simp] theorem State.raise_arg (c : ResultCode) : (s.raise c).arg = s.arg := rfl
@[simp] theorem State.raise_len (c : ResultCode) : (s.raise c).len = s.len := rfl
@[simp] theorem State.raise_result (c : ResultCode) : (s.raise c).result = c := rfl
@[simp] theorem State.raise_crc (c : ResultCode) : (s.raise c).crc = s.crc := rfl
@[simp] theorem State.raise_active (c : ResultCode) : (s.raise c).active = s.active := rfl
@[simp] theorem State.raise_started (c : ResultCode) : (s.raise c).started = s.started := rfl
@[simp] theorem State.raise_halted (c : ResultCode) : (s.raise c).halted = s.halted := rfl
@[simp] theorem State.raise_led (c : ResultCode) : (s.raise c).led = s.led := rfl
@[simp] theorem State.raise_annCode (c : ResultCode) : (s.raise c).annCode = s.annCode := rfl
@[simp] theorem State.raise_haltCode (c : ResultCode) : (s.raise c).haltCode = s.haltCode := rfl
@[simp] theorem State.raise_msgId (c : ResultCode) : (s.raise c).msgId = s.msgId := rfl
@[simp] theorem State.raise_pwmValue (c : ResultCode) : (s.raise c).pwmValue = s.pwmValue := rfl
@[simp] theorem State.raise_rs (c : ResultCode) : (s.raise c).rs = s.rs := rfl
@[simp] theorem State.raise_buf (c : ResultCode) : (s.raise c).buf = s.buf := rfl
@[simp] theorem State.raise_tickCnt (c : ResultCode) : (s.raise c).tickCnt = s.tickCnt := rfl
@[simp] theorem State.raise_startTick (c : ResultCode) : (s.raise c).startTick = s.startTick := rfl
@[simp] theorem State.raise_params (c : ResultCode) : (s.raise c).params = s.params := rfl
@[simp] theorem State.raise_inputs (c : ResultCode) : (s.raise c).inputs = s.inputs := rfl
@[simp] theorem State.raise_rdata (c : ResultCode) : (s.raise c).rdata = s.rdata := rfl
@[simp] theorem State.raise_resets (c : ResultCode) : (s.raise c).resets = s.resets := rfl

/-! ### The halted lock -/

theorem State.hostWrite_of_not_halted (f : State → State) (h : s.halted = false) : s.hostWrite f = f s := by
  simp [State.hostWrite, h]

theorem State.hostWrite_of_halted (f : State → State) (h : s.halted = true) : s.hostWrite f = s := by
  simp [State.hostWrite, h]

/-- What a host write can do: nothing on a halted block, its effect on any other. -/
theorem State.hostWrite_cases (f : State → State) :
    (s.halted = true ∧ s.hostWrite f = s) ∨ (s.halted = false ∧ s.hostWrite f = f s) := by
  cases h : s.halted <;> simp [State.hostWrite, h]

/-! ### The reset event -/

@[simp] theorem State.resetEvent_arg : s.resetEvent.arg = 0x00#8 := rfl
@[simp] theorem State.resetEvent_len : s.resetEvent.len = 0x00#8 := rfl
@[simp] theorem State.resetEvent_result : s.resetEvent.result = .ok := rfl
@[simp] theorem State.resetEvent_crc : s.resetEvent.crc = 0x00#8 := rfl
@[simp] theorem State.resetEvent_active : s.resetEvent.active = false := rfl
@[simp] theorem State.resetEvent_started : s.resetEvent.started = false := rfl
@[simp] theorem State.resetEvent_halted : s.resetEvent.halted = false := rfl
@[simp] theorem State.resetEvent_led : s.resetEvent.led = false := rfl
@[simp] theorem State.resetEvent_annCode : s.resetEvent.annCode = 0x00#8 := rfl
@[simp] theorem State.resetEvent_haltCode : s.resetEvent.haltCode = 0x00#8 := rfl
@[simp] theorem State.resetEvent_msgId : s.resetEvent.msgId = (resetDraw s.resets).msgId := rfl
@[simp] theorem State.resetEvent_pwmValue : s.resetEvent.pwmValue = (resetDraw s.resets).pwmValue := rfl
@[simp] theorem State.resetEvent_rs : s.resetEvent.rs = (resetDraw s.resets).rs := rfl
@[simp] theorem State.resetEvent_buf : s.resetEvent.buf = (resetDraw s.resets).buf := rfl
@[simp] theorem State.resetEvent_tickCnt : s.resetEvent.tickCnt = 0#32 := rfl
@[simp] theorem State.resetEvent_startTick : s.resetEvent.startTick = 0#32 := rfl
@[simp] theorem State.resetEvent_params : s.resetEvent.params = s.params := rfl
@[simp] theorem State.resetEvent_inputs : s.resetEvent.inputs = s.inputs := rfl
@[simp] theorem State.resetEvent_rdata : s.resetEvent.rdata = s.rdata := rfl
@[simp] theorem State.resetEvent_resets : s.resetEvent.resets = s.resets + 1 := rfl

end Sys2Proof.Machine
end

