-- ==== Sys2Proof/Laws/Annunciator.lean ====
section
/-! SUPPORT. What `report` and each part of a tick event can do. -/

namespace Sys2Proof.Machine

variable (s : State)

theorem State.report_of_idle (c : Byte) (h : s.active = false) : s.report c = s.accept c := by
  simp [State.report, h]

theorem State.report_of_active (c : Byte) (h : s.active = true) : s.report c = s := by
  simp [State.report, h]

/-- A report is accepted by an idle block and dropped by an announcing one (R215). -/
theorem State.report_cases (c : Byte) :
    (s.active = false ∧ s.report c = s.accept c) ∨ (s.active = true ∧ s.report c = s) := by
  cases h : s.active <;> simp [State.report, h]

theorem State.latchStart_of_started (h : s.started = true) : s.latchStart = s := by
  simp [State.latchStart, h]

theorem State.latchStart_of_unstarted (h : s.started = false) : s.latchStart = s.setStart s.tickCnt := by
  simp [State.latchStart, h]

theorem State.playStep_of_inside (h : s.stepIndex < s.params.totalSteps) :
    s.playStep = s.setLed (pattern s.params s.annCode s.stepIndex) := by
  simp [State.playStep, h]

theorem State.playStep_of_past (h : s.params.totalSteps ≤ s.stepIndex) : s.playStep = s.complete := by
  simp [State.playStep, Nat.not_lt.mpr h]

theorem State.rearm_of_active (h : s.active = true) : s.rearm = s := by
  simp [State.rearm, h]

theorem State.rearm_of_not_halted (h : s.halted = false) : s.rearm = s := by
  simp [State.rearm, h]

theorem State.rearm_of_halted_idle (hh : s.halted = true) (ha : s.active = false) : s.rearm = s.accept s.haltCode := by
  simp [State.rearm, hh, ha]

/-- The re-arm reports `HALT_CODE` on a halted idle block and does nothing on any other (R233). -/
theorem State.rearm_cases :
    (s.halted = true ∧ s.active = false ∧ s.rearm = s.accept s.haltCode) ∨ s.rearm = s := by
  cases hh : s.halted <;> cases ha : s.active <;> simp [State.rearm, hh, ha]

/-- A step index is inside the pattern exactly when the elapsed ticks are (R221). -/
theorem stepIndex_lt_iff (p : Params) (h : 1 ≤ p.stepDiv) (e : Nat) :
    e / p.stepDiv < p.totalSteps ↔ e < p.patternTicks := by
  rw [Params.patternTicks, Nat.div_lt_iff_lt_mul h]

theorem totalSteps_pos {p : Params} (h : p.Valid) : 0 < p.totalSteps := by
  have := h.bitSteps_two
  simp only [Params.totalSteps]
  omega

/-- Between two tick events of an announcement the elapsed ticks grow by one, across a wrap of `TICKCNT` too (R227). -/
theorem State.elapsed_count {n : Nat} (h : s.elapsed = n) (hn : n + 1 < 2 ^ 32) :
    (s.setTickCnt (s.tickCnt + 1#32)).elapsed = n + 1 := by
  have shift : s.tickCnt + 1#32 - s.startTick = (s.tickCnt - s.startTick) + 1#32 := by ring
  unfold State.elapsed at h ⊢
  rw [State.setTickCnt_tickCnt, State.setTickCnt_startTick, shift, BitVec.toNat_add, h]
  simp
  omega

/-- The fields no part of a tick event writes (R214). -/
structure KeepsHostState (s t : State) : Prop where
  arg : t.arg = s.arg
  len : t.len = s.len
  result : t.result = s.result
  crc : t.crc = s.crc
  halted : t.halted = s.halted
  haltCode : t.haltCode = s.haltCode
  msgId : t.msgId = s.msgId
  pwmValue : t.pwmValue = s.pwmValue
  rs : t.rs = s.rs
  buf : t.buf = s.buf
  params : t.params = s.params
  inputs : t.inputs = s.inputs
  rdata : t.rdata = s.rdata
  resets : t.resets = s.resets

/-- The whole of a tick event but the re-arm. -/
theorem State.tickEvent_eq : s.tickEvent = State.rearm
    (bif s.active then (s.setTickCnt (s.tickCnt + 1#32)).latchStart.playStep
      else (s.setTickCnt (s.tickCnt + 1#32)).setLed false) := rfl

theorem State.latchStart_keepsHostState : KeepsHostState s s.latchStart := by
  cases h : s.started
  · rw [s.latchStart_of_unstarted h]; constructor <;> rfl
  · rw [s.latchStart_of_started h]; constructor <;> rfl

theorem State.playStep_keepsHostState : KeepsHostState s s.playStep := by
  unfold State.playStep; split <;> constructor <;> simp

theorem State.rearm_keepsHostState : KeepsHostState s s.rearm := by
  rcases s.rearm_cases with ⟨_, _, h⟩ | h <;> rw [h] <;> constructor <;> rfl

theorem KeepsHostState.trans {s t u : State} (h : KeepsHostState s t) (k : KeepsHostState t u) :
    KeepsHostState s u := by
  obtain ⟨h1, h2, h3, h4, h5, h6, h7, h8, h9, h10, h11, h12, h13, h14⟩ := h
  constructor <;> simp [*, k.arg, k.len, k.result, k.crc, k.halted, k.haltCode, k.msgId, k.pwmValue, k.rs, k.buf,
    k.params, k.inputs, k.rdata, k.resets]

theorem State.tickEvent_keepsHostState : KeepsHostState s s.tickEvent := by
  rw [State.tickEvent_eq]
  refine .trans ?_ (State.rearm_keepsHostState _)
  cases s.active
  · constructor <;> rfl
  · refine .trans (t := (s.setTickCnt (s.tickCnt + 1#32)).latchStart) ?_ (State.playStep_keepsHostState _)
    refine .trans (t := s.setTickCnt (s.tickCnt + 1#32)) ?_ (State.latchStart_keepsHostState _)
    constructor <;> rfl

/-- What waits in `inputs` does not matter to a tick event. -/
theorem State.tickEvent_setInputs (es : List Event) : (s.setInputs es).tickEvent = s.tickEvent.setInputs es := by
  have rearm : ∀ u : State, (u.setInputs es).rearm = u.rearm.setInputs es := by
    intro u; cases hh : u.halted <;> cases ha : u.active <;> simp [State.rearm, hh, ha] <;> rfl
  have latch : ∀ u : State, (u.setInputs es).latchStart = u.latchStart.setInputs es := by
    intro u; cases hs : u.started <;> simp [State.latchStart, hs] <;> rfl
  have play : ∀ u : State, (u.setInputs es).playStep = u.playStep.setInputs es := by
    intro u
    have index : (u.setInputs es).stepIndex = u.stepIndex := rfl
    unfold State.playStep
    simp only [index, State.setInputs_params]
    split <;> rfl
  rw [State.tickEvent_eq, State.tickEvent_eq, State.setInputs_active]
  cases s.active
  · exact rearm ((s.setTickCnt (s.tickCnt + 1#32)).setLed false)
  · simp only [cond_true]
    rw [← rearm, ← play, ← latch]
    rfl

end Sys2Proof.Machine
end

