-- ==== Sys2Proof/Laws/Ops.lean ====
section
/-! SUPPORT. What each shared operation over the buffer, the register map, the status bytes and the cipher can do, said
once. -/

namespace Sys2Proof.Machine

/-! ## The buffer -/

theorem bufAt_eq (b : Vector Byte 32) {i : Nat} (h : i < 32) : bufAt b i = b[i] := by
  simp [bufAt, h]

theorem rsAt_eq (r : Vector Byte 20) {j : Nat} (h : j < 20) : rsAt r j = r[j] := by
  simp [rsAt, h]

theorem getElem_bufSet (b : Vector Byte 32) (i : Nat) (v : Byte) {j : Nat} (h : j < 32) :
    (bufSet b i v)[j] = if i = j then v else b[j] := by
  simp [bufSet, Vector.getElem_setIfInBounds]

theorem getElem_bufXor (b : Vector Byte 32) (i : Nat) (x : Byte) {j : Nat} (h : j < 32) :
    (bufXor b i x)[j] = if i = j then b[j] ^^^ x else b[j] := by
  rw [bufXor, getElem_bufSet b i _ h]
  split
  · next e => subst e; rw [bufAt_eq b h]
  · rfl

theorem length_bufTake (b : Vector Byte 32) {n : Nat} (h : n ≤ 32) : (bufTake b n).length = n := by
  simp [bufTake, h]

theorem getElem_bufTake (b : Vector Byte 32) {n i : Nat} (hn : n ≤ 32) (h : i < n) :
    (bufTake b n)[i]'(by rw [length_bufTake b hn]; exact h) = b[i] := by
  simp [bufTake]

/-- Two buffers with equal first `n` bytes have equal strings of length `n`. -/
theorem bufTake_congr {a b : Vector Byte 32} {n : Nat} (hn : n ≤ 32)
    (h : ∀ (j : Nat) (hj : j < 32), j < n → a[j] = b[j]) : bufTake a n = bufTake b n := by
  apply List.ext_getElem
  · rw [length_bufTake a hn, length_bufTake b hn]
  · intro i hi _
    rw [length_bufTake a hn] at hi
    rw [getElem_bufTake a hn hi, getElem_bufTake b hn hi]
    exact h i (by omega) hi

/-! ## The register map -/

theorem regOf_rs {j : Nat} (h : j < 20) : regOf (BitVec.ofNat 8 (0x20 + j)) = .rs ⟨j, h⟩ := by
  revert j; decide

theorem regOf_buf {i : Nat} (h : i < 32) : regOf (BitVec.ofNat 8 (0x40 + i)) = .buf ⟨i, h⟩ := by
  revert i; decide

/-- An address is reserved exactly in the gaps of R21. -/
theorem regOf_eq_reserved_iff (a : Byte) : regOf a = .reserved ↔
    (0x08 ≤ a.toNat ∧ a.toNat ≤ 0x0F ∨ 0x12 ≤ a.toNat ∧ a.toNat ≤ 0x1F ∨
      0x34 ≤ a.toNat ∧ a.toNat ≤ 0x3F ∨ 0x60 ≤ a.toNat) := by
  revert a; decide

/-- The address of a register that is not reserved. -/
def addrOf : Reg → Byte
  | .cmd => 0x00#8
  | .arg => 0x01#8
  | .len => 0x02#8
  | .result => 0x03#8
  | .crc => 0x04#8
  | .annStatus => 0x05#8
  | .annCode => 0x06#8
  | .haltCode => 0x07#8
  | .msgId => 0x10#8
  | .pwmValue => 0x11#8
  | .rs j => BitVec.ofNat 8 (0x20 + j.val)
  | .buf i => BitVec.ofNat 8 (0x40 + i.val)
  | .reserved => 0xFF#8

theorem addrOf_regOf (a : Byte) (h : regOf a ≠ .reserved) : addrOf (regOf a) = a := by
  revert a; decide

/-- Two addresses of one register other than the reserved ones are equal. -/
theorem regOf_injective {a b : Byte} (h : regOf a = regOf b) (ha : regOf a ≠ .reserved) : a = b := by
  rw [← addrOf_regOf a ha, h, addrOf_regOf b (h ▸ ha)]

/-- A write of a writable register shows in that register and in no other. -/
theorem State.readReg_storeReg (s : State) (r q : Reg) (v : Byte) :
    (s.storeReg r v).readReg q = if r = q ∧ r.writable = true then v else s.readReg q := by
  cases r <;> cases q <;>
    simp [State.storeReg, State.readReg, Reg.writable, State.annStatus, Vector.getElem_set, Fin.ext_iff]

/-- A write of a register that is not writable changes nothing. -/
theorem State.storeReg_of_not_writable (s : State) (r : Reg) (v : Byte) (h : r.writable = false) :
    s.storeReg r v = s := by
  cases r <;> simp_all [State.storeReg, Reg.writable]

/-! ## The cipher -/

theorem getElem_foldl_bufXor (key : List Byte) (size : Nat) (l : List Nat) (b : Vector Byte 32) (x : Byte) {j : Nat}
    (h : j < 32) :
    b[j] ^^^ l.foldl (fun x i => if i % size = j then x ^^^ keyAt key i else x) x =
      (l.foldl (fun b i => bufXor b (i % size) (keyAt key i)) b)[j] ^^^ x := by
  induction l generalizing b x with
  | nil => rfl
  | cons i l ih =>
    have key_step := ih (bufXor b (i % size) (keyAt key i)) (if i % size = j then x ^^^ keyAt key i else x)
    rw [getElem_bufXor b (i % size) _ h] at key_step
    simp only [List.foldl_cons]
    by_cases e : i % size = j
    · simp only [e, if_true] at key_step ⊢
      have cancel : ∀ p q r t : Byte, p ^^^ r ^^^ q = t ^^^ (x ^^^ r) → p ^^^ q = t ^^^ x := by
        intro p q r t hyp
        have undo : p ^^^ q = (p ^^^ r ^^^ q) ^^^ r := by
          rw [BitVec.xor_assoc p r q, BitVec.xor_comm r q, ← BitVec.xor_assoc, BitVec.xor_assoc, BitVec.xor_self,
            BitVec.xor_zero]
        rw [undo, hyp, BitVec.xor_assoc, BitVec.xor_assoc, BitVec.xor_self, BitVec.xor_zero]
      exact cancel _ _ _ _ key_step
    · simpa only [e, if_false] using key_step

/-- What `cipher(S)` does to each byte: the mask of R122 on the first `S`, nothing beyond. -/
theorem getElem_cipher (key : List Byte) {size : Nat} (hs : 1 ≤ size) (b : Vector Byte 32) {j : Nat} (h : j < 32) :
    (cipher key size b)[j] = if j < size then b[j] ^^^ cipherMask key size j else b[j] := by
  have fold := getElem_foldl_bufXor key size (List.range (max key.length size)) b 0x00#8 h
  have hc : (cipher key size b)[j] = b[j] ^^^ cipherMask key size j := by
    simpa [cipher, cipherMask] using fold.symm
  rw [hc]
  split
  · rfl
  · next hj =>
    have never : ∀ (l : List Nat) (x : Byte),
        l.foldl (fun x i => if i % size = j then x ^^^ keyAt key i else x) x = x := by
      intro l
      induction l with
      | nil => intro x; rfl
      | cons i l ih =>
        intro x
        have : i % size ≠ j := by have := Nat.mod_lt i hs; omega
        simp [this, ih]
    simp [cipherMask, never]

/-- The cipher is its own inverse (R124 a). -/
theorem cipher_cipher (key : List Byte) {size : Nat} (hs : 1 ≤ size) (b : Vector Byte 32) :
    cipher key size (cipher key size b) = b := by
  ext1 j h
  rw [getElem_cipher key hs _ h, getElem_cipher key hs b h]
  split <;> simp

/-! ## The checksum -/

theorem crc8_append_singleton (m : List Byte) (x : Byte) : crc8 (m ++ [x]) = crcByte (crc8 m) x := by
  simp [crc8]

theorem crcShift_xor (a b : Byte) : crcShift (a ^^^ b) = crcShift a ^^^ crcShift b := by
  have split_off : ∀ c : Byte, crcShift c = (c >>> 1) ^^^ (if c.getLsbD 0 then 0x8C#8 else 0#8) := by
    intro c; unfold crcShift; split <;> simp
  have fold : (if (a ^^^ b).getLsbD 0 then 0x8C#8 else 0#8) =
      (if a.getLsbD 0 then 0x8C#8 else 0#8) ^^^ (if b.getLsbD 0 then 0x8C#8 else 0#8) := by
    rw [BitVec.getLsbD_xor]; cases a.getLsbD 0 <;> cases b.getLsbD 0 <;> rfl
  rw [split_off, split_off a, split_off b, fold, BitVec.ushiftRight_xor_distrib]
  ac_rfl

theorem crcShift_iterate_xor (n : Nat) (a b : Byte) : crcShift^[n] (a ^^^ b) = crcShift^[n] a ^^^ crcShift^[n] b := by
  induction n generalizing a b with
  | zero => rfl
  | succ n ih => rw [Function.iterate_succ_apply, Function.iterate_succ_apply, Function.iterate_succ_apply,
      crcShift_xor, ih]

theorem crcByte_zero_zero : crcByte 0x00#8 0x00#8 = 0x00#8 := by decide

/-- One byte of the checksum is linear in register and byte together. -/
theorem crcByte_xor (a b x y : Byte) : crcByte (a ^^^ b) (x ^^^ y) = crcByte a x ^^^ crcByte b y := by
  unfold crcByte
  rw [← crcShift_iterate_xor]
  congr 1
  ac_rfl

end Sys2Proof.Machine
end

