-- ==== Sys2Proof/Laws/Commands.lean ====
section
/-! SUPPORT. What each command does on a block that is not halted, one equation per case of its rule, each case by the
condition the rule gives. -/

namespace Sys2Proof.Machine

variable (s : State)

theorem State.doCrc8_of_le (h : s.len.toNat ≤ 32) :
    s.doCrc8 = (s.setCrc (crc8 (bufTake s.buf s.len.toNat))).setResult .ok :=
  if_neg (Nat.not_lt.mpr h)

theorem State.doCrc8_of_gt (h : 32 < s.len.toNat) : s.doCrc8 = s.raise .lengthError := if_pos h

/-- A length of 1 to 32 passes the check of `CIPHER` and `DECODE`. -/
theorem length_passes {l : Nat} (h1 : 1 ≤ l) (h2 : l ≤ 32) : ¬ (l < 1 ∨ l > Config.mtu) := by
  intro h
  rcases h with h | h
  · omega
  · exact absurd h (Nat.not_lt.mpr h2)

/-- Length 0 or above 32 fails it. -/
theorem length_fails {l : Nat} (h : l = 0 ∨ 32 < l) : l < 1 ∨ l > Config.mtu :=
  h.imp (fun e => by omega) id

theorem State.doCipher_of_length (h1 : 1 ≤ s.len.toNat) (h2 : s.len.toNat ≤ 32) :
    s.doCipher = (s.setBuf (cipher s.params.key s.len.toNat s.buf)).setResult .ok :=
  if_neg (length_passes h1 h2)

theorem State.doCipher_of_bad_length (h : s.len.toNat = 0 ∨ 32 < s.len.toNat) : s.doCipher = s.raise .lengthError :=
  if_pos (length_fails h)

theorem State.doEncode_of_le (h : s.len.toNat ≤ 31) : s.doEncode =
    (((s.setBuf (cipher s.params.key (s.len.toNat + 1)
      (bufSet s.buf s.len.toNat (crc8 (bufTake s.buf s.len.toNat))))).setCrc (crc8 (bufTake s.buf s.len.toNat))).setLen
      (s.len + 1#8)).setResult .ok :=
  if_neg (Nat.not_lt.mpr (Nat.succ_le_succ h))

theorem State.doEncode_of_ge (h : 32 ≤ s.len.toNat) : s.doEncode = s.raise .lengthError :=
  if_pos (Nat.lt_succ_of_le h)

theorem State.doDecode_of_bad_length (h : s.len.toNat = 0 ∨ 32 < s.len.toNat) : s.doDecode = s.raise .lengthError :=
  if_pos (length_fails h)

/-- `DECODE` of a frame whose deciphered trailer is the checksum of the rest. -/
theorem State.doDecode_of_match (h1 : 1 ≤ s.len.toNat) (h2 : s.len.toNat ≤ 32) {b : Vector Byte 32}
    (hb : cipher s.params.key s.len.toNat s.buf = b)
    (h : crc8 (bufTake b (s.len.toNat - 1)) = bufAt b (s.len.toNat - 1)) :
    s.doDecode =
      (((s.setBuf b).setCrc (crc8 (bufTake b (s.len.toNat - 1)))).setLen (s.len - 1#8)).setResult .ok := by
  subst hb
  exact (if_neg (length_passes h1 h2)).trans (if_pos h)

/-- `DECODE` of a frame whose deciphered trailer is not. -/
theorem State.doDecode_of_mismatch (h1 : 1 ≤ s.len.toNat) (h2 : s.len.toNat ≤ 32) {b : Vector Byte 32}
    (hb : cipher s.params.key s.len.toNat s.buf = b)
    (h : crc8 (bufTake b (s.len.toNat - 1)) ≠ bufAt b (s.len.toNat - 1)) :
    s.doDecode =
      (((s.setBuf b).setCrc (crc8 (bufTake b (s.len.toNat - 1)))).setLen 0x00#8).raise .integrityFailure := by
  subst hb
  exact (if_neg (length_passes h1 h2)).trans (if_neg h)

theorem State.doEncmsg_of_setPwm (h : s.msgId = 0x01#8) : s.doEncmsg =
    ((s.setBuf (bufSet (bufSet s.buf 0 0x01#8) 1 s.pwmValue)).setLen 2#8).setResult .ok :=
  if_pos h

theorem State.doEncmsg_of_replyStatus (h : s.msgId = 0x02#8) : s.doEncmsg =
    ((s.setBuf (putReply s.params s.rs s.buf)).setLen (BitVec.ofNat 8 (1 + s.params.rsSize))).setResult .ok :=
  (if_neg (by rw [h]; decide)).trans (if_pos h)

theorem State.doEncmsg_of_unknown (h1 : s.msgId ≠ 0x01#8) (h2 : s.msgId ≠ 0x02#8) :
    s.doEncmsg = s.raise .protocolFailure :=
  (if_neg h1).trans (if_neg h2)

theorem rsSize_le_twenty (p : Params) : p.rsSize ≤ 20 := by
  unfold Params.rsSize; cases p.schema <;> decide

theorem eight_le_rsSize (p : Params) : 8 ≤ p.rsSize := by
  unfold Params.rsSize; cases p.schema <;> decide

theorem getElem_putReply (p : Params) (rs : Vector Byte 20) (b : Vector Byte 32) {j : Nat} (h : j < 32) :
    (putReply p rs b)[j] = if j = 0 then 0x02#8 else if j ≤ p.rsSize then rsAt rs (j - 1) else b[j] := by
  simp [putReply, idReplyStatus]

theorem getElem_takeReply (p : Params) (b : Vector Byte 32) (rs : Vector Byte 20) {j : Nat} (h : j < 20) :
    (takeReply p b rs)[j] = if j < p.rsSize then b[1 + j] else rs[j] := by
  simp [takeReply, bufAt_eq b (show 1 + j < 32 by omega)]

theorem State.doDecmsg_of_setPwm (h : s.buf[0] = 0x01#8) (hl : s.len.toNat = 2) :
    s.doDecmsg = ((s.setMsgId 0x01#8).setPwmValue s.buf[1]).setResult .ok := by
  rw [← bufAt_eq s.buf (by decide)] at h ⊢
  exact if_pos ⟨by omega, by rw [hl]; decide, h, hl⟩

theorem State.doDecmsg_of_replyStatus (h : s.buf[0] = 0x02#8) (hl : s.len.toNat = 1 + s.params.rsSize) :
    s.doDecmsg = ((s.setMsgId 0x02#8).setRs (takeReply s.params s.buf s.rs)).setResult .ok := by
  have size : s.len.toNat ≤ 32 := by have := rsSize_le_twenty s.params; omega
  rw [← bufAt_eq s.buf (by decide)] at h
  refine (if_neg ?_).trans (if_pos ⟨by omega, size, h, hl⟩)
  rintro ⟨_, _, e, _⟩
  rw [h] at e
  exact absurd e (by decide)

theorem State.doDecmsg_of_no_match (h1 : ¬ (s.buf[0] = 0x01#8 ∧ s.len.toNat = 2))
    (h2 : ¬ (s.buf[0] = 0x02#8 ∧ s.len.toNat = 1 + s.params.rsSize)) : s.doDecmsg = s.raise .protocolFailure := by
  rw [← bufAt_eq s.buf (by decide)] at h1 h2
  refine (if_neg ?_).trans (if_neg ?_)
  · rintro ⟨_, _, e, l⟩; exact h1 ⟨e, l⟩
  · rintro ⟨_, _, e, l⟩; exact h2 ⟨e, l⟩

theorem State.doReport_of_idle (h : s.active = false) : s.doReport = (s.accept s.arg).setResult .ok := by
  rw [State.doReport, s.report_of_idle _ h]

theorem State.doReport_of_active (h : s.active = true) : s.doReport = s.setResult .ok := by
  rw [State.doReport, s.report_of_active _ h]

theorem State.doHalt_of_idle (h : s.active = false) :
    s.doHalt = (((s.setHaltCode s.arg).accept s.arg).setHalted).setResult .ok := by
  rw [State.doHalt, (s.setHaltCode s.arg).report_of_idle s.arg h]

theorem State.doHalt_of_active (h : s.active = true) :
    s.doHalt = ((s.setHaltCode s.arg).setHalted).setResult .ok := by
  rw [State.doHalt, (s.setHaltCode s.arg).report_of_active s.arg h]

/-- A write to `CMD` runs the command. -/
theorem State.doWr_cmd (op : Byte) : s.doWr 0x00#8 op = s.runCommand op := rfl

/-- A write elsewhere stores. -/
theorem State.doWr_of_ne (a v : Byte) (h : a ≠ 0x00#8) : s.doWr a v = s.storeReg (regOf a) v := by
  have other : regOf a ≠ .cmd := by revert h; revert a; decide
  exact if_neg other

end Sys2Proof.Machine
end

