-- ==== Sys2Proof/Laws/Config.lean ====
section
/-! SUPPORT. The default blink constants meet the constraints of R13, so the instance `State.reset` is made of does. -/

namespace Sys2Proof

theorem withDefaults_valid (key : List Byte) (schema : Schema) (h : 1 ≤ key.length) :
    (Params.withDefaults key schema).Valid where
  key_nonempty := h
  stepDiv_pos := (by decide : 1 ≤ 100)
  preLen_pos := (by decide : 1 ≤ 6)
  bitSteps_two := (by decide : 2 ≤ 4)
  prePattern_lt := (by decide : 0b010101 < 2 ^ 6)
  mask0_lt := (by decide : 0b0001 < 2 ^ 4)
  mask1_lt := (by decide : 0b0111 < 2 ^ 4)
  pulses := ⟨1, 3, (by decide), (by decide : 0b0001 = 2 ^ 1 - 1), (by decide : 0b0111 = 2 ^ 3 - 1)⟩
  mask0_low := (by decide : (0b0001).testBit 0 = true)
  mask1_low := (by decide : (0b0111).testBit 0 = true)
  mask0_high := (by decide : (0b0001).testBit 3 = false)
  mask1_high := (by decide : (0b0111).testBit 3 = false)
  pattern_fits := (by decide : (6 + 8 * 4) * 100 < 2 ^ 32)

theorem config_params_valid : Config.params.Valid :=
  withDefaults_valid _ _ (by simp)

end Sys2Proof
end

