-- ==== Sys2Proof/Laws/LinkSession.lean ====
section
/-! SUPPORT. What each part of the documented host can do: what a report writes; the order of start-up, loop and halt; and
what every step but the failsafe leaves alone while no valid `SetPwm` arrives. -/

namespace Sys2Proof.Machine

variable (h : HostParams) (l : Link)

/-! ## A report -/

@[simp] theorem Link.report_phase (c : FaultCode) : (l.report c).phase = l.phase := rfl
@[simp] theorem Link.report_session (c : FaultCode) : (l.report c).session = l.session := rfl
@[simp] theorem Link.report_block (c : FaultCode) : (l.report c).block = l.block.hostReport c := rfl
@[simp] theorem Link.report_radioInits (c : FaultCode) : (l.report c).radioInits = l.radioInits := rfl
@[simp] theorem Link.report_actuator (c : FaultCode) : (l.report c).actuator = l.actuator := rfl
@[simp] theorem Link.report_sent (c : FaultCode) : (l.report c).sent = l.sent := rfl
@[simp] theorem Link.report_reports (c : FaultCode) : (l.report c).reports = l.reports ++ [c] := rfl

/-! ## Start-up, loop, halt -/

theorem Link.run_cons (x : LoopInputs) (xs : List LoopInputs) : l.run h (x :: xs) = (l.advance h x).run h xs := rfl

theorem Link.advance_of_startUp (x : LoopInputs) (p : l.phase = .startUp) : l.advance h x = l.startUp h x.initOk := by
  simp [Link.advance, p]

theorem Link.advance_of_loop (x : LoopInputs) (p : l.phase = .loop) : l.advance h x = l.iterate h x := by
  simp [Link.advance, p]

theorem Link.advance_of_halted (x : LoopInputs) (p : l.phase = .halted) : l.advance h x = l := by
  simp [Link.advance, p]

/-- After a failed start-up the host does nothing any more (R192, R284). -/
theorem Link.run_of_halted (xs : List LoopInputs) (p : l.phase = .halted) : l.run h xs = l := by
  induction xs with
  | nil => rfl
  | cons x xs ih => rw [Link.run_cons, l.advance_of_halted h x p, ih]

/-- A failed start-up: the `HALT` is the one thing the host ever does with its block (R194). -/
theorem Link.run_of_failed_startUp (x : LoopInputs) (xs : List LoopInputs) (p : l.phase = .startUp)
    (failed : x.initOk = false) :
    l.run h (x :: xs) =
      { l with phase := .halted, radioInits := l.radioInits ++ [h.radio], block := l.block.hostHalt .hwInit } := by
  have start : l.startUp h false =
      { l with phase := .halted, radioInits := l.radioInits ++ [h.radio], block := l.block.hostHalt .hwInit } := rfl
  rw [Link.run_cons, l.advance_of_startUp h x p, failed, start]
  exact Link.run_of_halted h _ xs rfl

/-- A successful start-up leaves the block as it is and enters the loop (R284). -/
theorem Link.run_of_startUp (x : LoopInputs) (xs : List LoopInputs) (p : l.phase = .startUp) (ok : x.initOk = true) :
    l.run h (x :: xs) = Link.run h xs { l with phase := .loop, radioInits := l.radioInits ++ [h.radio] } := by
  rw [Link.run_cons, l.advance_of_startUp h x p, ok]
  rfl

/-! ## What the steps leave alone -/

/-- What a part of an iteration leaves alone unless it is the failsafe or accepts a `SetPwm` (R185, R187). -/
structure KeepsSilence (l l' : Link) : Prop where
  phase : l'.phase = l.phase
  lastValid : l'.session.lastValidCommandTick = l.session.lastValidCommandTick
  timeoutReported : l'.session.timeoutReported = l.session.timeoutReported
  actuator : l'.actuator = l.actuator
  count : l'.reports.count .safetyTimeout = l.reports.count .safetyTimeout

theorem KeepsSilence.refl : KeepsSilence l l := ⟨rfl, rfl, rfl, rfl, rfl⟩

theorem KeepsSilence.trans {a b c : Link} (p : KeepsSilence a b) (q : KeepsSilence b c) : KeepsSilence a c :=
  ⟨q.phase.trans p.phase, q.lastValid.trans p.lastValid, q.timeoutReported.trans p.timeoutReported,
    q.actuator.trans p.actuator, q.count.trans p.count⟩

theorem KeepsSilence.report {a b : Link} (p : KeepsSilence a b) {c : FaultCode} (other : c ≠ .safetyTimeout) :
    KeepsSilence a (b.report c) :=
  p.trans ⟨rfl, rfl, rfl, rfl, by simp [List.count_append, other]⟩

theorem KeepsSilence.radioSend {a b : Link} (p : KeepsSilence a b) (sendOk marked : Bool) :
    KeepsSilence a (b.radioSend sendOk marked) := by
  have handed : KeepsSilence a { b with sent := b.sent ++ [⟨b.block.hostFrame, marked⟩] } :=
    p.trans ⟨rfl, rfl, rfl, rfl, rfl⟩
  cases sendOk
  · exact handed.report (by decide)
  · exact handed

theorem KeepsSilence.sendStaged {a b : Link} (p : KeepsSilence a b) (sendOk marked : Bool) :
    KeepsSilence a (b.sendStaged sendOk marked) := by
  have encoded : KeepsSilence a { b with block := b.block.hostEncode } := p.trans ⟨rfl, rfl, rfl, rfl, rfl⟩
  unfold Link.sendStaged
  dsimp only
  cases b.block.hostEncode.hostSucceeded
  · exact encoded
  · exact encoded.radioSend sendOk marked

theorem Link.periodicSend_keepsSilence (now : Nat) (throttle : Byte) (sendOk : Bool) :
    KeepsSilence l (l.periodicSend h now throttle sendOk) := by
  unfold Link.periodicSend
  cases h.endpoint <;> dsimp only <;> split
  · refine KeepsSilence.sendStaged (a := l) ?_ _ _; exact ⟨rfl, rfl, rfl, rfl, rfl⟩
  · exact ⟨rfl, rfl, rfl, rfl, rfl⟩
  · refine KeepsSilence.sendStaged (a := l) ?_ _ _; exact ⟨rfl, rfl, rfl, rfl, rfl⟩
  · exact ⟨rfl, rfl, rfl, rfl, rfl⟩

theorem Link.gather_keepsSilence (now : Nat) (refresh : Option (Vector Byte 20)) :
    KeepsSilence l (l.gather h now refresh) := by
  unfold Link.gather
  cases h.endpoint
  · exact .refl l
  · dsimp only
    split
    · cases refresh
      · refine KeepsSilence.report (a := l) ?_ (c := .ioFailure) (by decide); exact ⟨rfl, rfl, rfl, rfl, rfl⟩
      · exact ⟨rfl, rfl, rfl, rfl, rfl⟩
    · exact ⟨rfl, rfl, rfl, rfl, rfl⟩

/-- What accepting a `SetPwm` of the byte `b` at `now` does to the same fields (R187). -/
structure AcceptsSetPwm (now : Nat) (b : Byte) (l l' : Link) : Prop where
  phase : l'.phase = l.phase
  lastValid : l'.session.lastValidCommandTick = now
  timeoutReported : l'.session.timeoutReported = false
  actuator : l'.actuator = l.actuator ++ [pwmMap (asInt8 b)]
  reports : l'.reports = l.reports

/-- Receiving either leaves the silence alone or accepts a `SetPwm` at `now` (R187). -/
theorem Link.receive_cases (now : Nat) (poll : RadioPoll) :
    KeepsSilence l (l.receive h now poll) ∨ ∃ b, AcceptsSetPwm now b l (l.receive h now poll) := by
  have dispatch : ∀ k : Link, KeepsSilence k (k.dispatch h now) ∨
      ∃ b, AcceptsSetPwm now b k (k.dispatch h now) := by
    intro k
    unfold Link.dispatch
    split
    · cases h.endpoint
      · exact .inl (.refl k)
      · exact .inr ⟨_, rfl, rfl, rfl, rfl, rfl⟩
    · exact .inl ⟨rfl, rfl, rfl, rfl, rfl⟩
  have typed : ∀ k : Link, KeepsSilence k (k.receiveMessage h now) ∨
      ∃ b, AcceptsSetPwm now b k (k.receiveMessage h now) := by
    intro k
    have same : KeepsSilence k { k with block := k.block.hostWr 0x00#8 0x06#8 } := ⟨rfl, rfl, rfl, rfl, rfl⟩
    unfold Link.receiveMessage
    dsimp only
    cases (k.block.hostWr 0x00#8 0x06#8).hostSucceeded
    · exact .inl (same.report (by decide))
    · exact (dispatch _).imp same.trans fun ⟨b, a⟩ => ⟨b, a.1, a.2, a.3, a.4, a.5⟩
  cases poll with
  | nothing => exact .inl (.refl l)
  | error => exact .inl ((KeepsSilence.refl l).report (by decide))
  | frame bytes =>
    have same : KeepsSilence l { l with block := (l.block.hostLoad bytes).hostWr 0x00#8 0x04#8 } :=
      ⟨rfl, rfl, rfl, rfl, rfl⟩
    unfold Link.receive
    dsimp only
    cases ((l.block.hostLoad bytes).hostWr 0x00#8 0x04#8).hostSucceeded
    · simp only [cond_false]
      split
      · exact .inl (same.report (by decide))
      · exact .inl same
    · exact (typed _).imp same.trans fun ⟨b, a⟩ => ⟨b, a.1, a.2, a.3, a.4, a.5⟩

/-! ## The actuator's range (R197) -/

theorem clamp_inRange (x lo hi : Int) (ordered : lo ≤ hi) : lo ≤ clamp x lo hi ∧ clamp x lo hi ≤ hi := by
  unfold clamp
  split
  · omega
  · split <;> omega

/-- What the failsafe can do: nothing, or force the neutral pulse width (R184). -/
theorem Link.failsafe_actuator (now : Nat) :
    (l.failsafe h now).actuator = l.actuator ∨ (l.failsafe h now).actuator = l.actuator ++ [h.neutralUs] := by
  unfold Link.failsafe
  split
  · cases l.session.timeoutReported <;> exact .inr rfl
  · exact .inl rfl

theorem Link.ActuatorInRange.append {a b : Link} (p : a.ActuatorInRange) {us : Int} (q : PulseInRange us)
    (e : b.actuator = a.actuator ++ [us]) : b.ActuatorInRange := by
  intro v hv
  rw [e, List.mem_append, List.mem_singleton] at hv
  rcases hv with hv | rfl
  · exact p v hv
  · exact q

theorem Link.ActuatorInRange.congr {a b : Link} (p : a.ActuatorInRange) (e : b.actuator = a.actuator) :
    b.ActuatorInRange := by
  intro v hv
  exact p v (e ▸ hv)

theorem Link.iterate_actuatorInRange (x : LoopInputs) (valid : h.Valid) (p : l.ActuatorInRange) :
    (l.iterate h x).ActuatorInRange := by
  have forced : (l.failsafe h x.now).ActuatorInRange := by
    rcases l.failsafe_actuator h x.now with e | e
    · exact p.congr e
    · exact p.append valid.neutral_inRange e
  have received : (Link.receive h x.now x.poll (l.failsafe h x.now)).ActuatorInRange := by
    rcases Link.receive_cases h (l.failsafe h x.now) x.now x.poll with k | ⟨b, k⟩
    · exact forced.congr k.actuator
    · exact forced.append (clamp_inRange _ 1000 2000 (by decide)) k.actuator
  have sent := received.congr (Link.periodicSend_keepsSilence h _ x.now x.throttle x.sendOk).actuator
  exact sent.congr (Link.gather_keepsSilence h _ x.now x.refresh).actuator

theorem Link.advance_actuatorInRange (x : LoopInputs) (valid : h.Valid) (p : l.ActuatorInRange) :
    (l.advance h x).ActuatorInRange := by
  cases e : l.phase with
  | startUp => rw [l.advance_of_startUp h x e]; exact p
  | loop => rw [l.advance_of_loop h x e]; exact l.iterate_actuatorInRange h x valid p
  | halted => rw [l.advance_of_halted h x e]; exact p

/-- Along a run of the documented host the actuator is given pulse widths of its range only (R197). -/
theorem Link.run_actuatorInRange (xs : List LoopInputs) (valid : h.Valid) (p : l.ActuatorInRange) :
    (l.run h xs).ActuatorInRange := by
  induction xs generalizing l with
  | nil => exact p
  | cons x xs ih => rw [Link.run_cons]; exact ih _ (l.advance_actuatorInRange h x valid p)

theorem Link.initial_actuatorInRange (session : Session) (block : State) :
    (Link.initial session block).ActuatorInRange := by
  intro us hus
  cases hus

end Sys2Proof.Machine
end

