-- ==== Sys2Proof/Laws/PerInstr.lean ====
section
/-! SUPPORT. What is said of every instruction as syntax, one lemma per constructor: which of the two bus primitives
carries it. -/

namespace Sys2Proof.Laws.BusDirection

/-- Bit 16 of the bus transaction that carries an instruction is 0 for `RD` and 1 for every other: each of them is a
host write (R90, R91). -/
def Statement (i : Instr) : Prop :=
  (busWordOf (encode i)).getLsbD 16 = match i with
    | .rd _ _ => false
    | .wr _ _ => true
    | .nop => true
    | .crc8 => true
    | .cipher => true
    | .encode => true
    | .decode => true
    | .encmsg => true
    | .decmsg => true
    | .report => true
    | .halt => true
    | .illegal _ => true

/-- Bit 16 of a `BUS17` word is its `rw` field. -/
theorem busFields_bit16 (rw : Nat) (h : rw < 2) (addr data : Byte) :
    (busFields rw addr data).getLsbD 16 = decide (rw = 1) := by
  have ha := addr.isLt
  have hd := data.isLt
  simp only [busFields, BitVec.getLsbD, BitVec.toNat_ofNat, Nat.testBit_eq_decide_div_mod_eq]
  congr 1
  rw [eq_iff_iff]
  omega

theorem rd (addr data : Byte) : Statement (.rd addr data) := busFields_bit16 0 (by decide) addr data
theorem wr (addr data : Byte) : Statement (.wr addr data) := busFields_bit16 1 (by decide) addr data
theorem nop : Statement .nop := rfl
theorem crc8 : Statement .crc8 := rfl
theorem cipher : Statement .cipher := rfl
theorem encode : Statement .encode := rfl
theorem decode : Statement .decode := rfl
theorem encmsg : Statement .encmsg := rfl
theorem decmsg : Statement .decmsg := rfl
theorem report : Statement .report := rfl
theorem halt : Statement .halt := rfl
theorem illegal (op : Byte) : Statement (.illegal op) := busFields_bit16 1 (by decide) 0x00#8 op

end Sys2Proof.Laws.BusDirection
end

