-- ==== Sys2Proof/Laws/Step.lean ====
section
/-! SUPPORT. What a step can do: every instruction and every event completes, and its result is a function of the
state; and the one induction over a list of events that a run performs. -/

namespace Sys2Proof.Machine

/-- The state after an instruction. -/
def effectOf (i : Instr) (s : State) : State :=
  match i with
  | .rd a _ => s.doRd a
  | .wr a v => s.hostWrite fun s => s.doWr a v
  | .nop => s.hostWrite State.doNop
  | .crc8 => s.hostWrite State.doCrc8
  | .cipher => s.hostWrite State.doCipher
  | .encode => s.hostWrite State.doEncode
  | .decode => s.hostWrite State.doDecode
  | .encmsg => s.hostWrite State.doEncmsg
  | .decmsg => s.hostWrite State.doDecmsg
  | .report => s.hostWrite State.doReport
  | .halt => s.hostWrite State.doHalt
  | .illegal _ => s.hostWrite State.doIllegal

theorem exec_eq_next (i : Instr) (s : State) : exec i s = .next (effectOf i s) := by
  cases i <;> rfl

/-- The state after an event. -/
def afterEvent (e : Event) (s : State) : State :=
  match e with
  | .host w => effectOf (decodeBus17 w) s
  | .tick => s.tickEvent
  | .reset => s.resetEvent

theorem performEvent_eq_next (e : Event) (s : State) : performEvent e s = .next (afterEvent e s) := by
  cases e with
  | host w => exact exec_eq_next (decodeBus17 w) s
  | tick => rfl
  | reset => rfl

theorem step_of_inputs_cons {s : State} {e : Event} {es : List Event} (h : s.inputs = e :: es) :
    step s = .next (afterEvent e (s.setInputs es)) := by
  simp [step, h, performEvent_eq_next]

theorem step_of_inputs_nil {s : State} (h : s.inputs = []) : step s = .next s := by
  simp [step, h]

/-- What a step can do: nothing when no event waits, else exactly the oldest event. -/
theorem step_cases {s t : State} (h : step s = .next t) :
    (s.inputs = [] ∧ t = s) ∨
    (∃ e es, s.inputs = e :: es ∧ t = afterEvent e (s.setInputs es)) := by
  cases hi : s.inputs with
  | nil =>
    rw [step_of_inputs_nil hi] at h
    exact .inl ⟨rfl, by injection h with h; exact h.symm⟩
  | cons e es =>
    rw [step_of_inputs_cons hi] at h
    exact .inr ⟨e, es, rfl, by injection h with h; exact h.symm⟩

/-- The states a host access can leave differ from the one before it only where R42 says; in particular in these
fields not at all. -/
structure KeepsTickState (s t : State) : Prop where
  led : t.led = s.led
  tickCnt : t.tickCnt = s.tickCnt
  startTick : t.startTick = s.startTick
  params : t.params = s.params
  inputs : t.inputs = s.inputs
  resets : t.resets = s.resets

theorem KeepsTickState.refl (s : State) : KeepsTickState s s := ⟨rfl, rfl, rfl, rfl, rfl, rfl⟩

variable (s : State)

theorem State.doNop_keepsTickState : KeepsTickState s s.doNop := by
  constructor <;> rfl

theorem State.doCrc8_keepsTickState : KeepsTickState s s.doCrc8 := by
  unfold State.doCrc8; (repeat' split) <;> constructor <;> simp

theorem State.doCipher_keepsTickState : KeepsTickState s s.doCipher := by
  unfold State.doCipher; (repeat' split) <;> constructor <;> simp

theorem State.doEncode_keepsTickState : KeepsTickState s s.doEncode := by
  unfold State.doEncode; (repeat' split) <;> constructor <;> simp

theorem State.doDecode_keepsTickState : KeepsTickState s s.doDecode := by
  unfold State.doDecode; dsimp only; (repeat' split) <;> constructor <;> simp

theorem State.doEncmsg_keepsTickState : KeepsTickState s s.doEncmsg := by
  unfold State.doEncmsg; (repeat' split) <;> constructor <;> simp

theorem State.doDecmsg_keepsTickState : KeepsTickState s s.doDecmsg := by
  unfold State.doDecmsg; dsimp only; (repeat' split) <;> constructor <;> simp

theorem State.doReport_keepsTickState : KeepsTickState s s.doReport := by
  rcases s.report_cases s.arg with ⟨_, h⟩ | ⟨_, h⟩ <;> constructor <;> simp [State.doReport, h]

theorem State.doHalt_keepsTickState : KeepsTickState s s.doHalt := by
  rcases (s.setHaltCode s.arg).report_cases s.arg with ⟨_, h⟩ | ⟨_, h⟩ <;> constructor <;> simp [State.doHalt, h]

theorem State.doIllegal_keepsTickState : KeepsTickState s s.doIllegal := by
  constructor <;> rfl

theorem State.storeReg_keepsTickState (r : Reg) (v : Byte) : KeepsTickState s (s.storeReg r v) := by
  cases r <;> constructor <;> rfl

theorem State.runCommand_keepsTickState (op : Byte) : KeepsTickState s (s.runCommand op) := by
  unfold State.runCommand
  split
  · exact s.doNop_keepsTickState
  · exact s.doCrc8_keepsTickState
  · exact s.doCipher_keepsTickState
  · exact s.doEncode_keepsTickState
  · exact s.doDecode_keepsTickState
  · exact s.doEncmsg_keepsTickState
  · exact s.doDecmsg_keepsTickState
  · exact s.doReport_keepsTickState
  · exact s.doHalt_keepsTickState
  · exact s.doIllegal_keepsTickState

theorem State.doWr_keepsTickState (a v : Byte) : KeepsTickState s (s.doWr a v) := by
  unfold State.doWr
  split
  · exact s.runCommand_keepsTickState v
  · exact s.storeReg_keepsTickState (regOf a) v

theorem State.hostWrite_keepsTickState (f : State → State) (h : KeepsTickState s (f s)) :
    KeepsTickState s (s.hostWrite f) := by
  rcases s.hostWrite_cases f with ⟨_, e⟩ | ⟨_, e⟩ <;> rw [e]
  · exact .refl s
  · exact h

/-- No instruction writes the pin, the tick values, the parameters, the events to come or the reset count. -/
theorem effectOf_keepsTickState (i : Instr) : KeepsTickState s (effectOf i s) := by
  cases i with
  | rd a d => constructor <;> rfl
  | wr a v => exact s.hostWrite_keepsTickState (fun s => s.doWr a v) (s.doWr_keepsTickState a v)
  | nop => exact s.hostWrite_keepsTickState _ s.doNop_keepsTickState
  | crc8 => exact s.hostWrite_keepsTickState _ s.doCrc8_keepsTickState
  | cipher => exact s.hostWrite_keepsTickState _ s.doCipher_keepsTickState
  | encode => exact s.hostWrite_keepsTickState _ s.doEncode_keepsTickState
  | decode => exact s.hostWrite_keepsTickState _ s.doDecode_keepsTickState
  | encmsg => exact s.hostWrite_keepsTickState _ s.doEncmsg_keepsTickState
  | decmsg => exact s.hostWrite_keepsTickState _ s.doDecmsg_keepsTickState
  | report => exact s.hostWrite_keepsTickState _ s.doReport_keepsTickState
  | halt => exact s.hostWrite_keepsTickState _ s.doHalt_keepsTickState
  | illegal op => exact s.hostWrite_keepsTickState _ s.doIllegal_keepsTickState

/-- What a host access can do to the announcement: nothing, or start one on an idle block; and a halted block keeps
its halt (R215, R225, R232). -/
structure HostAnnounces (s t : State) : Prop where
  schedule : (t.active = s.active ∧ t.started = s.started ∧ t.annCode = s.annCode) ∨
    (s.active = false ∧ t.active = true ∧ t.started = false)
  halt : s.halted = true → t.halted = true ∧ t.haltCode = s.haltCode

theorem HostAnnounces.of_eq {s t : State} (h : t.active = s.active) (h' : t.started = s.started)
    (h'' : t.annCode = s.annCode) (k : t.halted = s.halted) (k' : t.haltCode = s.haltCode) : HostAnnounces s t :=
  ⟨.inl ⟨h, h', h''⟩, fun e => ⟨k.trans e, k'⟩⟩

theorem State.runCommand_hostAnnounces (op : Byte) (hh : s.halted = false) : HostAnnounces s (s.runCommand op) := by
  refine ⟨?_, by simp [hh]⟩
  unfold State.runCommand
  split
  · left; simp [State.doNop]
  · left; unfold State.doCrc8; split <;> simp
  · left; unfold State.doCipher; split <;> simp
  · left; unfold State.doEncode; split <;> simp
  · left; unfold State.doDecode; dsimp only; (repeat' split) <;> simp
  · left; unfold State.doEncmsg; (repeat' split) <;> simp
  · left; unfold State.doDecmsg; dsimp only; (repeat' split) <;> simp
  · rcases s.report_cases s.arg with ⟨ha, h⟩ | ⟨ha, h⟩
    · right; simp [State.doReport, h, ha]
    · left; simp [State.doReport, h]
  · rcases (s.setHaltCode s.arg).report_cases s.arg with ⟨ha, h⟩ | ⟨ha, h⟩
    · right; simp [State.doHalt, h]; simpa using ha
    · left; simp [State.doHalt, h]
  · left; simp [State.doIllegal]

theorem effectOf_hostAnnounces (w : BusWord) : HostAnnounces s (effectOf (decodeBus17 w) s) := by
  unfold decodeBus17
  split
  · simp only [effectOf]
    rcases s.hostWrite_cases (fun s => s.doWr (w.extractLsb' 8 8) (w.extractLsb' 0 8)) with ⟨_, e⟩ | ⟨hh, e⟩ <;> rw [e]
    · exact .of_eq rfl rfl rfl rfl rfl
    · unfold State.doWr
      split
      · exact s.runCommand_hostAnnounces _ hh
      · cases regOf (w.extractLsb' 8 8) <;> exact .of_eq rfl rfl rfl rfl rfl
  · exact .of_eq rfl rfl rfl rfl rfl

/-- A run over the events offered, when a property of the state and the number of tick events so far survives every
event but a reset: it holds at the end. -/
theorem run_keeps {P : Nat → State → Prop}
    (host : ∀ n s w es, P n s → P n (afterEvent (.host w) (s.setInputs es)))
    (tick : ∀ n s es, P n s → P (n + 1) (afterEvent .tick (s.setInputs es)))
    :
    ∀ (es : List Event) (n : Nat) (s : State), Event.reset ∉ es → s.inputs = es → P n s →
      ∃ t, core.run es.length s = .next t ∧ P (n + tickCount es) t := by
  intro es
  induction es with
  | nil => intro n s _ _ hp; exact ⟨s, rfl, hp⟩
  | cons e es ih =>
    intro n s hr hi hp
    have hr' : Event.reset ∉ es := fun h => hr (List.mem_cons_of_mem e h)
    have hs : core.step s = .next (afterEvent e (s.setInputs es)) := step_of_inputs_cons hi
    cases e with
    | reset => exact absurd List.mem_cons_self hr
    | tick =>
      obtain ⟨t, ht, hq⟩ := ih (n + 1) (afterEvent .tick (s.setInputs es)) hr' (by simp [afterEvent, (State.tickEvent_keepsHostState (s.setInputs es)).inputs])
        (tick n s es hp)
      refine ⟨t, ?_, ?_⟩
      · simp only [List.length_cons, Host.Core.run, hs]; exact ht
      · have count : tickCount (.tick :: es) = tickCount es + 1 := by simp [tickCount]
        rw [count, Nat.add_comm (tickCount es) 1, ← Nat.add_assoc]; exact hq
    | host w =>
      obtain ⟨t, ht, hq⟩ := ih n (afterEvent (.host w) (s.setInputs es)) hr'
        (by simp [afterEvent, (effectOf_keepsTickState (s.setInputs es) (decodeBus17 w)).inputs]) (host n s w es hp)
      refine ⟨t, ?_, ?_⟩
      · simp only [List.length_cons, Host.Core.run, hs]; exact ht
      · have count : tickCount (.host w :: es) = tickCount es := by simp [tickCount]
        rw [count]; exact hq

end Sys2Proof.Machine
end

