-- ==== Sys2Proof/Tests/Slice0.lean ====
section
/-! SUPPORT. Tests: one step each on a small state, the expected values taken from the vectors V40 to V60 and the
listings of 95_test_vectors.md; and, per statement with hypotheses, a witness that meets them. -/

namespace Sys2Proof.Tests

open Sys2Proof.Machine

/-! ## A small state -/

/-- The unspecified registers as the listings take them: `MSG_ID = 77`, `PWM_VALUE = 55`, `RS` all `11`,
`BUF[i] = i`. -/
def draw : ResetDraw where
  msgId := 0x77#8
  pwmValue := 0x55#8
  rs := Vector.replicate 20 0x11#8
  buf := Vector.ofFn fun i => BitVec.ofNat 8 i.val

/-- `TESTKEY5`, `NARROW`, `STEP_DIV = 1`, the other blink constants at their defaults. -/
def quick : Params := { Params.withDefaults Config.testKey5 .narrow with stepDiv := 1 }

/-- The reset state of that instance. -/
def idle : State := State.resetOf quick draw

/-- The idle block with a byte string in `BUF` and its length in `LEN`. -/
def loaded (bs : List Byte) : State :=
  { idle with buf := Vector.ofFn fun i => bs.getD i.val 0x00#8, len := BitVec.ofNat 8 bs.length }

/-- The block after the acceptance of a report of 05. -/
def announcing : State := { idle with active := true, annCode := 0x05#8 }

/-- The halted block that announces its code 01. -/
def halted : State := { idle with halted := true, haltCode := 0x01#8, active := true, annCode := 0x01#8 }

/-- Something read from the next state of an instruction. -/
def see {α : Type} (i : Instr) (s : State) (f : State → α) : Option α :=
  match exec i s with
  | .next t => some (f t)
  | .fault _ => none
  | .refused _ => none

/-- The first `n` bytes of `BUF`. -/
def bytes (n : Nat) (s : State) : List Byte := bufTake s.buf n

theorem quick_valid : quick.Valid where
  key_nonempty := by decide
  stepDiv_pos := by decide
  preLen_pos := by decide
  bitSteps_two := by decide
  prePattern_lt := by decide
  mask0_lt := by decide
  mask1_lt := by decide
  pulses := ⟨1, 3, by decide, by decide, by decide⟩
  mask0_low := by decide
  mask1_low := by decide
  mask0_high := by decide
  mask1_high := by decide
  pattern_fits := by decide

/-! ## Well-formedness and decoding -/

/-- R93, R96: an assigned opcode is no illegal command; the check is the only one there is. -/
theorem test_wf_refuses_assigned_opcodes :
    (Instr.illegal 0x00#8).wf = false ∧ (Instr.illegal 0x08#8).wf = false ∧ (Instr.illegal 0x09#8).wf = true ∧
    (Instr.rd 0xFF#8 0xFF#8).wf = true := by decide

/-- `BUS17` words of the listings P1, P3, P5, P6. -/
theorem test_decode_bus17 :
    decodeBus17 0x11001#17 = .wr 0x10#8 0x01#8 ∧ decodeBus17 0x140AB#17 = .wr 0x40#8 0xAB#8 ∧
    decodeBus17 0x13300#17 = .wr 0x33#8 0x00#8 ∧ decodeBus17 0x180AA#17 = .wr 0x80#8 0xAA#8 ∧
    decodeBus17 0x05F00#17 = .rd 0x5F#8 0x00#8 ∧ decodeBus17 0x08000#17 = .rd 0x80#8 0x00#8 ∧
    decodeBus17 0x00000#17 = .rd 0x00#8 0x00#8 := by decide

/-- The nine opcodes of R93, and the illegal command at both ends of its range. -/
theorem test_decode_cmd8 :
    decodeCmd8 0b00000000#8 = .nop ∧ decodeCmd8 0b00000001#8 = .crc8 ∧ decodeCmd8 0b00000010#8 = .cipher ∧
    decodeCmd8 0b00000011#8 = .encode ∧ decodeCmd8 0b00000100#8 = .decode ∧ decodeCmd8 0b00000101#8 = .encmsg ∧
    decodeCmd8 0b00000110#8 = .decmsg ∧ decodeCmd8 0b00000111#8 = .report ∧ decodeCmd8 0b00001000#8 = .halt ∧
    decodeCmd8 0b00001001#8 = .illegal 0x09#8 ∧ decodeCmd8 0b11111111#8 = .illegal 0xFF#8 := by decide

/-- The rows of the opcode table as numbered words; a word with a bit above its format is rejected. -/
theorem test_decodeTableWord :
    decodeTableWord 8 0x02 = some .cipher ∧ decodeTableWord 8 0x80 = some (.illegal 0x80#8) ∧
    decodeTableWord 24 0x10000 = some (.wr 0x00#8 0x00#8) ∧ decodeTableWord 17 0x00300 = some (.rd 0x03#8 0x00#8) ∧
    decodeTableWord 8 0x100 = none ∧ decodeTableWord 24 0x20000 = none ∧ decodeTableWord 0 0 = none ∧
    decodeTableWord 32 0 = none := by decide

/-- R93: a command as a bus transaction is `0x10000 + op`. -/
theorem test_busWordOf_encode :
    busWordOf (encode .report) = 0x10007#17 ∧ busWordOf (encode (.illegal 0xFF#8)) = 0x100FF#17 ∧
    busWordOf (encode (.wr 0x41#8 0x40#8)) = 0x14140#17 ∧ busWordOf (encode (.rd 0x03#8 0x00#8)) = 0x00300#17 := by
  decide

/-- A placed word is the next event, and the step runs it: `DECMSG` on the idle block fails, since `LEN = 0`. -/
theorem test_withFetchWord_runs_the_word :
    step (idle.withFetchWord 8 0x06) = .next { idle with result := .protocolFailure } := by rfl

/-- The same of the block right after power-on, with a key and a buffer that nothing determines: `CIPHER` with
`LEN = 0`. -/
theorem test_withFetchWord_after_reset :
    step (State.reset.withFetchWord 8 0x02) = .next { State.reset with result := .lengthError } := by rfl

/-! ## One step of each instruction -/

/-- R62: `RESULT`, the last bytes of `RS` and `BUF`, `CMD`, a reserved address (V60-5). -/
theorem test_rd :
    see (.rd 0x03#8 0x00#8) { idle with result := .illegalCommand } State.rdata = some (some 0x04#8) ∧
    see (.rd 0x33#8 0x00#8) idle State.rdata = some (some 0x11#8) ∧
    see (.rd 0x5F#8 0x00#8) idle State.rdata = some (some 0x1F#8) ∧
    see (.rd 0x00#8 0x00#8) idle State.rdata = some (some 0x00#8) ∧
    see (.rd 0x3F#8 0xFF#8) idle State.rdata = some (some 0x00#8) := by decide

/-- P2: `ANN_STATUS` reads 0x0B after the first tick of an announcement; P3: 0x0F halted and lit; V45-10: 0x07. -/
theorem test_rd_annStatus :
    announcing.tickEvent.busRead 0x05#8 = 0x0B#8 ∧ halted.tickEvent.busRead 0x05#8 = 0x0F#8 ∧
    ({ halted with started := true } : State).busRead 0x05#8 = 0x07#8 := by decide

/-- R63's example, and V60-3, V60-4: read-only and reserved addresses ignore a write. -/
theorem test_wr :
    see (.wr 0x41#8 0x40#8) idle (fun s => s.buf[1]) = some 0x40#8 ∧
    see (.wr 0x03#8 0xAA#8) idle id = some idle ∧ see (.wr 0x80#8 0xAA#8) idle id = some idle := by decide

/-- V60-6, P3: while halted every write is ignored, `CMD` included. -/
theorem test_wr_halted :
    see (.wr 0x00#8 0x09#8) halted id = some halted ∧ see (.wr 0x01#8 0x99#8) halted id = some halted := by decide

/-- V40-27. -/
theorem test_nop :
    see .nop { idle with result := .protocolFailure } id = some idle := by decide

/-- V40-22, V40-23. -/
theorem test_crc8 :
    see .crc8 (loaded [0x01#8, 0x40#8]) State.crc = some 0x82#8 ∧
    see .crc8 { loaded [] with crc := 0x55#8 } State.crc = some 0x00#8 := by decide +kernel

/-- V40-25, P6: `LEN = 33`. -/
theorem test_crc8_length :
    see .crc8 { idle with len := 33#8, crc := 0x55#8 } id =
      some { idle with len := 33#8, crc := 0x55#8, result := .lengthError } := by decide

/-- V41-16: six bytes ciphered, the seventh untouched. -/
theorem test_cipher :
    see .cipher { loaded [0x11#8, 0x22#8, 0x33#8, 0x44#8, 0x55#8, 0x66#8, 0x00#8] with len := 6#8 } (bytes 7) =
      some [0xB4#8, 0x1E#8, 0xA5#8, 0x4B#8, 0x0F#8, 0xC3#8, 0x00#8] := by decide +kernel

/-- V41-18: the folded mask, `K > S`. -/
theorem test_cipher_folds :
    see .cipher (loaded [0x00#8, 0x00#8, 0x00#8]) (bytes 3) = some [0xAA#8, 0x66#8, 0x96#8] := by decide +kernel

/-- V42-2: the frame `AB 26 14` of the payload `01 40`. -/
theorem test_encode :
    see .encode (loaded [0x01#8, 0x40#8]) (fun s => (bytes 3 s, s.crc, s.len, s.result)) =
      some ([0xAB#8, 0x26#8, 0x14#8], 0x82#8, 3#8, .ok) := by decide +kernel

/-- V42-10: `LEN = 32` fails and changes nothing but `RESULT`. -/
theorem test_encode_length :
    see .encode { idle with len := 32#8 } id = some { idle with len := 32#8, result := .lengthError } := by decide

/-- R142's example, and V42-19: a frame of one byte. -/
theorem test_decode :
    see .decode (loaded [0xAB#8, 0x26#8, 0x14#8]) (fun s => (bytes 3 s, s.crc, s.len, s.result)) =
      some ([0x01#8, 0x40#8, 0x82#8], 0x82#8, 2#8, .ok) ∧
    see .decode (loaded [0x5A#8]) (fun s => (bytes 1 s, s.crc, s.len, s.result)) =
      some ([0x00#8], 0x00#8, 0#8, .ok) := by decide +kernel

/-- V42-14: one bit flipped. -/
theorem test_decode_corrupted :
    see .decode (loaded [0xAB#8, 0x27#8, 0x14#8]) (fun s => (bytes 3 s, s.crc, s.len, s.result)) =
      some ([0x01#8, 0x41#8, 0x82#8], 0xDC#8, 0#8, .integrityFailure) := by decide +kernel

/-- V43-2 and V43-3: the last byte of the message, and the byte after it untouched. -/
theorem test_encmsg :
    see .encmsg { idle with msgId := 0x01#8, pwmValue := 0x80#8 } (fun s => (bytes 3 s, s.len)) =
      some ([0x01#8, 0x80#8, 0x02#8], 2#8) ∧
    see .encmsg { idle with msgId := 0x02#8 } (fun s => (s.buf[0], s.buf[8], s.buf[9], s.len)) =
      some (0x02#8, 0x11#8, 0x09#8, 9#8) := by decide +kernel

/-- V43-8: an unknown discriminant. -/
theorem test_encmsg_unknown :
    see .encmsg { idle with msgId := 0x03#8 } id =
      some { idle with msgId := 0x03#8, result := .protocolFailure } := by decide

/-- V43-9, and V43-15: `RS[7]` is taken and `RS[8]` is not. -/
theorem test_decmsg :
    see .decmsg (loaded [0x01#8, 0x40#8]) (fun s => (s.msgId, s.pwmValue, s.result)) =
      some (0x01#8, 0x40#8, .ok) ∧
    see .decmsg (loaded [0x02#8, 0x25#8, 0x7B#8, 0x00#8, 0x2D#8, 0x00#8, 0x80#8, 0xA0#8, 0x01#8])
      (fun s => (s.msgId, s.pwmValue, s.rs[7], s.rs[8])) = some (0x02#8, 0x55#8, 0x01#8, 0x11#8) := by decide +kernel

/-- V43-12, V43-16, V43-17: lengths that are no wire size. -/
theorem test_decmsg_length :
    see .decmsg (loaded [0x01#8, 0x40#8, 0x00#8]) State.result = some .protocolFailure ∧
    see .decmsg (loaded [0x02#8, 0x25#8, 0x7B#8, 0x00#8, 0x2D#8, 0x00#8, 0x80#8, 0xA0#8]) State.result =
      some .protocolFailure ∧
    see .decmsg idle State.result = some .protocolFailure := by decide +kernel

/-- R216's example: `ARG = 0x05` in `Idle`. -/
theorem test_report :
    see .report { idle with arg := 0x05#8 } (fun s => (s.busRead 0x05#8, s.annCode)) = some (0x01#8, 0x05#8) := by
  decide

/-- V45-8: a report while announcing is dropped and `RESULT` is 0. -/
theorem test_report_dropped :
    see .report { announcing with arg := 0xFF#8, result := .illegalCommand } id =
      some { announcing with arg := 0xFF#8 } := by decide

/-- R231's example: `HALT 01` from `Idle`. -/
theorem test_halt :
    see .halt { idle with arg := 0x01#8 } (fun s => (s.busRead 0x05#8, s.haltCode, s.annCode, s.result)) =
      some (0x05#8, 0x01#8, 0x01#8, .ok) := by decide

/-- V45-10: `HALT 01` while another code is announced. -/
theorem test_halt_announcing :
    see .halt { announcing with arg := 0x01#8, started := true } (fun s => (s.busRead 0x05#8, s.haltCode, s.annCode)) =
      some (0x07#8, 0x01#8, 0x05#8) := by decide

/-- V60-1, V60-2. -/
theorem test_illegal :
    see (.wr 0x00#8 0x09#8) idle id = some { idle with result := .illegalCommand } ∧
    see (.illegal 0xFF#8) idle id = some { idle with result := .illegalCommand } := by decide

/-! ## Ticks, reset, cycles -/

/-- V45-12, and V45-13 in small: the first tick of an announcement records the start and shows step 0. -/
theorem test_tick :
    idle.tickEvent = { idle with tickCnt := 1#32 } ∧
    ({ announcing with tickCnt := 57#32 } : State).tickEvent =
      { announcing with tickCnt := 58#32, startTick := 58#32, started := true, led := true } := by decide

/-- V45-9 at its 39th tick: completion and re-arm in one tick event. R227: the same across the wrap of `TICKCNT`. -/
theorem test_tick_completes :
    ({ halted with started := true, startTick := 1#32, tickCnt := 38#32 } : State).tickEvent =
      { halted with startTick := 1#32, tickCnt := 39#32 } ∧
    ({ announcing with started := true, startTick := 0xFFFFFFFE#32, tickCnt := 0xFFFFFFFF#32 } : State).tickEvent =
      { announcing with started := true, startTick := 0xFFFFFFFE#32, tickCnt := 0#32, led := true } := by decide

/-- P3: a reset ends the halt and the announcement; the parameters stay. -/
theorem test_reset :
    halted.resetEvent.busRead 0x05#8 = 0x00#8 ∧ halted.resetEvent.busRead 0x07#8 = 0x00#8 ∧
    halted.resetEvent.params = quick ∧ halted.resetEvent.tickCnt = 0#32 := by decide

/-- R61, R282: a reset wins its cycle; otherwise the tick comes first. -/
theorem test_cycle_events :
    (⟨true, true, some 0x10007#17⟩ : Cycle).events = [.reset] ∧
    (⟨false, true, some 0x10007#17⟩ : Cycle).events = [.tick, .host 0x10007#17] := by decide

/-! ## Functions -/

/-- V40-5, V40-6, V40-7, V40-18, V40-21. -/
theorem test_crc8_values :
    crc8 [0x80#8] = 0x8C#8 ∧ crc8 [0xFF#8] = 0x35#8 ∧ crc8 [0x01#8, 0x40#8] = 0x82#8 ∧
    crc8 [0x00#8, 0x00#8, 0x00#8, 0x01#8, 0x40#8] = 0x82#8 ∧ crc8 [0x01#8, 0x40#8, 0x82#8] = 0x00#8 := by
  decide +kernel

/-- V40-12, the check value of R115, by the bit loop and by the table. -/
theorem test_crc8_check :
    crc8 [0x31#8, 0x32#8, 0x33#8, 0x34#8, 0x35#8, 0x36#8, 0x37#8, 0x38#8, 0x39#8] = 0xA1#8 ∧
    crc8ByTable [0x31#8, 0x32#8, 0x33#8, 0x34#8, 0x35#8, 0x36#8, 0x37#8, 0x38#8, 0x39#8] = 0xA1#8 := by
  decide +kernel

/-- V41-2, V41-4, V41-8, V41-10, and V41-7 at its last byte. -/
theorem test_cipherMask :
    (List.range 2).map (cipherMask Config.testKey5 2) = [0x69#8, 0x33#8] ∧
    (List.range 4).map (cipherMask Config.testKey5 4) = [0xFF#8, 0x3C#8, 0x96#8, 0x0F#8] ∧
    (List.range 1).map (cipherMask Config.testKey8 1) = [0x05#8] ∧
    (List.range 3).map (cipherMask Config.testKey8 3) = [0x62#8, 0x79#8, 0x1E#8] ∧
    cipherMask Config.testKey5 32 31 = 0x3C#8 := by decide +kernel

/-- V45-2: the pattern of code 05. -/
theorem test_pattern :
    (List.range 14).map (pattern quick 0x05#8) =
      [true, false, true, false, true, false, true, true, true, false, true, false, false, false] := by decide

/-- V44-1, V44-2, V44-5, V44-7. -/
theorem test_pwmMap :
    pwmMap (asInt8 0x40#8) = 1752 ∧ pwmMap (asInt8 0x80#8) = 1000 ∧ pwmMap (asInt8 0xFF#8) = 1498 ∧
    pwmMap (asInt8 0xC0#8) = 1250 := by decide

/-- V44-8: no fire at 9, a fire at 10, a late fire at 37. -/
theorem test_rateLimit :
    rateLimit 10 0 9 = (false, 0) ∧ rateLimit 10 0 10 = (true, 10) ∧ rateLimit 10 20 37 = (true, 37) := by decide

/-- The fields of V43-4 as the host reads them. -/
theorem test_replyFields :
    let rs : Vector Byte 20 := Vector.ofFn fun j => [0x25#8, 0x7B#8, 0x00#8, 0x2D#8, 0x00#8, 0x80#8, 0xA0#8, 0x01#8,
      0x39#8, 0x30#8, 0x00#8, 0x00#8, 0x60#8, 0x79#8, 0xFE#8, 0xFF#8, 0x40#8, 0x0D#8, 0x03#8, 0x00#8].getD j.val 0x00#8
    replyFields rs = ⟨37, 123, 45, 128, 416⟩ ∧ replyExtra rs = ⟨12345, -100000, 200000⟩ := by decide +kernel

/-! ## Witnesses: for each statement with hypotheses, states and operands that meet them all, at the ends of a range -/

theorem witness_OpcodeMapIsWhole : 0x09 ≤ (0x09#8 : Byte).toNat ∧ 0x09 ≤ (0xFF#8 : Byte).toNat := by decide

theorem witness_DecodeOfEncode :
    (Instr.rd 0xFF#8 0xFF#8).wf = true ∧ (Instr.wr 0x00#8 0xFF#8).wf = true ∧ (Instr.illegal 0x09#8).wf = true ∧
    (Instr.illegal 0xFF#8).wf = true ∧ Instr.halt.wf = true := by decide

theorem witness_StepRunsTheDecodedInstruction :
    ({ idle with inputs := [.host 0x10101#17, .tick] } : State).inputs = .host 0x10101#17 :: [.tick] ∧
    decodeBus17 0x10101#17 = .wr 0x01#8 0x01#8 := by decide

theorem witness_StepPerformsTickResetAndNothing :
    ({ idle with inputs := [.tick, .reset] } : State).inputs = .tick :: [.reset] ∧
    ({ halted with inputs := [.reset] } : State).inputs = .reset :: [] ∧ idle.inputs = [] := by decide

theorem witness_CycleOrder : idle.inputs = [] ∧ halted.inputs = [] := by decide

theorem witness_ResetEventWritesTheResetValues :
    ({ halted with inputs := [.reset, .tick] } : State).inputs = .reset :: [.tick] := by decide

theorem witness_ReadsAfterReset : (0x00#8 : Byte).toNat < 0x10 ∧ (0x0F#8 : Byte).toNat < 0x10 := by decide

theorem witness_ReadReturnsTheRegister :
    19 < 20 ∧ 31 < 32 ∧ (0x08 ≤ (0x0F#8 : Byte).toNat ∧ (0x0F#8 : Byte).toNat ≤ 0x0F) ∧
    (0x12 ≤ (0x12#8 : Byte).toNat ∧ (0x1F#8 : Byte).toNat ≤ 0x1F) ∧
    (0x34 ≤ (0x34#8 : Byte).toNat ∧ (0x3F#8 : Byte).toNat ≤ 0x3F) ∧ 0x60 ≤ (0x60#8 : Byte).toNat ∧
    0x60 ≤ (0xFF#8 : Byte).toNat := by decide

theorem witness_WriteStoresTheByte : idle.halted = false ∧ 0 < 20 ∧ 19 < 20 ∧ 0 < 32 ∧ 31 < 32 := by decide

theorem witness_ReadOnlyAndReservedIgnoreWrites :
    (0x03 ≤ (0x03#8 : Byte).toNat ∧ (0x0F#8 : Byte).toNat ≤ 0x0F) ∧
    (0x12 ≤ (0x12#8 : Byte).toNat ∧ (0x1F#8 : Byte).toNat ≤ 0x1F) ∧
    (0x34 ≤ (0x34#8 : Byte).toNat ∧ (0x3F#8 : Byte).toNat ≤ 0x3F) ∧ 0x60 ≤ (0x60#8 : Byte).toNat := by decide

theorem witness_ReadAfterWrite :
    idle.halted = false ∧ (0x01#8 : Byte).toNat = 0x01 ∧ (0x02#8 : Byte).toNat = 0x02 ∧ (0x10#8 : Byte).toNat = 0x10 ∧
    (0x11#8 : Byte).toNat = 0x11 ∧ (0x20 ≤ (0x20#8 : Byte).toNat ∧ (0x33#8 : Byte).toNat ≤ 0x33) ∧
    (0x40 ≤ (0x40#8 : Byte).toNat ∧ (0x5F#8 : Byte).toNat ≤ 0x5F) ∧ (0x5E#8 : Byte) ≠ 0x5F#8 := by decide

theorem witness_HaltedBlockIgnoresWrites :
    halted.halted = true ∧ (∀ a d : Byte, Instr.wr 0x00#8 0x09#8 ≠ .rd a d) ∧ (∀ a d : Byte, Instr.report ≠ .rd a d) :=
  ⟨rfl, by simp, by simp⟩

theorem witness_HaltedIsStickyUntilReset :
    ∃ t : State, halted.halted = true ∧ ({ halted with inputs := [.tick] } : State).inputs.head? ≠ some .reset ∧
      step { halted with inputs := [.tick] } = .next t := ⟨_, rfl, by decide, rfl⟩

theorem witness_OnlyHaltHalts :
    ∃ t : State, idle.halted = false ∧ exec (.wr 0x00#8 0x08#8) idle = .next t ∧ t.halted = true :=
  ⟨_, rfl, rfl, rfl⟩

theorem witness_NopClearsResult : idle.halted = false ∧ halted.halted = true := by decide

theorem witness_UnassignedOpcodeIsIllegal :
    idle.halted = false ∧ 0x09 ≤ (0x09#8 : Byte).toNat ∧ 0x09 ≤ (0xFF#8 : Byte).toNat := by decide

theorem witness_Crc8CommandWritesTheChecksum :
    ({ idle with len := 32#8 } : State).halted = false ∧ (32#8 : Byte).toNat ≤ 32 ∧ 32 < (33#8 : Byte).toNat := by decide

theorem witness_CipherXorsTheMask :
    ({ idle with len := 32#8 } : State).halted = false ∧ (1 ≤ (1#8 : Byte).toNat ∧ (32#8 : Byte).toNat ≤ 32) ∧
    idle.len.toNat = 0 ∧ 32 < (33#8 : Byte).toNat := by decide

theorem witness_EncodeBuildsTheFrame :
    let s : State := { idle with len := 31#8 }
    s.halted = false ∧ s.len.toNat = 31 ∧ 31 ≤ 31 ∧ s.buf.toList.take 31 = s.buf.toList.take 31 ∧
    idle.len.toNat = 0 ∧ 0 ≤ 31 := by decide

theorem witness_EncodeLengthErrorExactly :
    (∃ t : State, idle.halted = false ∧ exec .encode { idle with len := 32#8 } = .next t ∧ t.result = .lengthError) ∧
    ∃ t : State, exec .encode { idle with len := 31#8 } = .next t ∧ t.result = .ok :=
  ⟨⟨_, rfl, rfl, rfl⟩, ⟨_, rfl, rfl⟩⟩

theorem witness_DecodeDeciphersAndChecks :
    let s := loaded [0xAB#8, 0x26#8, 0x14#8]
    let l := { idle with len := 32#8 }
    s.halted = false ∧ s.len.toNat = 3 ∧ 1 ≤ 3 ∧ 3 ≤ 32 ∧ l.halted = false ∧ l.len.toNat = 32 := by decide

theorem witness_DecodeLengthErrorExactly :
    (∃ t : State, idle.halted = false ∧ exec .decode idle = .next t ∧ idle.len.toNat = 0 ∧ t.result = .lengthError) ∧
    (∃ t : State, exec .decode (loaded [0x5A#8]) = .next t ∧ (loaded [0x5A#8]).len.toNat = 1) ∧
    ∃ t : State, exec .decode { idle with len := 33#8 } = .next t ∧ t.result = .lengthError :=
  ⟨⟨_, rfl, rfl, rfl, rfl⟩, ⟨_, rfl, rfl⟩, ⟨_, rfl, rfl⟩⟩

theorem witness_DiscardedFrameReachesNoMessageRegister :
    let s := loaded [0xAB#8, 0x27#8, 0x14#8]
    s.halted = false ∧ s.len.toNat = 3 ∧ see .decode s State.result = some .integrityFailure := by decide +kernel

theorem witness_EncmsgWritesTheMessage :
    idle.halted = false ∧ ({ idle with msgId := 0x01#8 } : State).msgId = 0x01#8 ∧
    ({ idle with msgId := 0x02#8 } : State).msgId = 0x02#8 ∧ idle.msgId ≠ 0x01#8 ∧ idle.msgId ≠ 0x02#8 := by decide

theorem witness_DecmsgReadsTheMessage :
    let s := loaded [0x01#8, 0x40#8]
    let r := loaded [0x02#8, 0x25#8, 0x7B#8, 0x00#8, 0x2D#8, 0x00#8, 0x80#8, 0xA0#8, 0x01#8]
    s.halted = false ∧ s.buf[0] = 0x01#8 ∧ s.len = 2#8 ∧
    r.halted = false ∧ r.buf[0] = 0x02#8 ∧ r.len.toNat = 1 + r.params.rsSize := by decide

theorem witness_DecmsgFailureChangesOnlyResult :
    let s := loaded [0x01#8, 0x40#8, 0x00#8]
    s.halted = false ∧ ¬ (s.buf[0] = 0x01#8 ∧ s.len = 2#8) ∧
    ¬ (s.buf[0] = 0x02#8 ∧ s.len.toNat = 1 + s.params.rsSize) ∧
    see .decmsg s State.result = some .protocolFailure ∧
    see .decmsg (loaded [0x01#8, 0x40#8]) (fun t => (t.result, t.msgId)) = some (.ok, 0x01#8) ∧
    see .decmsg (loaded [0x02#8, 0x25#8, 0x7B#8, 0x00#8, 0x2D#8, 0x00#8, 0x80#8, 0xA0#8, 0x01#8])
      (fun t => (t.result, t.msgId)) = some (.ok, 0x02#8) := by decide +kernel

theorem witness_ReportIsAcceptedOrDropped :
    idle.halted = false ∧ idle.active = false ∧ announcing.halted = false ∧ announcing.active = true := by decide

theorem witness_HaltReportsAndLocks :
    idle.halted = false ∧ idle.active = false ∧ announcing.halted = false ∧ announcing.active = true := by decide

/-- A change of each state the table of R42 names. -/
theorem witness_WriterTable :
    see (.wr 0x01#8 0x09#8) idle (fun t => decide (t.arg ≠ idle.arg)) = some true ∧
    see .encode (loaded [0x01#8]) (fun t => decide (t.len ≠ (loaded [0x01#8]).len ∧ t.crc ≠ (loaded [0x01#8]).crc ∧
      t.buf[0] ≠ (loaded [0x01#8]).buf[0])) = some true ∧
    see .cipher idle (fun t => decide (t.result ≠ idle.result)) = some true ∧
    see .halt { idle with arg := 0x01#8 } (fun t => decide (t.active ≠ idle.active ∧ t.annCode ≠ idle.annCode ∧
      t.halted ≠ idle.halted ∧ t.haltCode ≠ idle.haltCode)) = some true ∧
    see .report { idle with started := true } (fun t => t.started) = some false ∧
    see .decmsg (loaded [0x01#8, 0x40#8]) (fun t => decide (t.msgId ≠ 0x77#8 ∧ t.pwmValue ≠ 0x55#8)) = some true ∧
    see (.wr 0x33#8 0xEE#8) idle (fun t => decide (t.rs[19] ≠ idle.rs[19])) = some true ∧
    see (.rd 0x00#8 0x00#8) idle (fun t => decide (t.rdata ≠ idle.rdata)) = some true := by decide +kernel

theorem witness_FailuresArePrecise :
    isCommand .cipher = true ∧ idle.halted = false ∧ see .cipher idle State.result = some .lengthError ∧
    see .encmsg idle State.result = some .protocolFailure ∧
    see (.illegal 0x09#8) idle State.result = some .illegalCommand := by decide

theorem witness_Crc8IsLinear : [0x01#8, 0x40#8].length = [0x02#8, 0xFF#8].length := by decide

theorem witness_Crc8DetectsOneByteChanges : (0x40#8 : Byte) ≠ 0x41#8 := by decide

theorem witness_CipherMaskByCases :
    (1 ≤ Config.testKey5.length ∧ 1 ≤ 5 ∧ 4 < 5 ∧ Config.testKey5.length ≤ 5) ∧
    (1 ≤ Config.testKey5.length ∧ 1 ≤ 4 ∧ 3 < 4 ∧ 4 < Config.testKey5.length) ∧ 0 < 1 ∧ 1 < Config.testKey5.length := by
  decide

theorem witness_CipherTwiceRestores :
    let s := { idle with len := 32#8 }
    s.halted = false ∧ 1 ≤ s.len.toNat ∧ s.len.toNat ≤ 32 := by decide

/-- The sender of the frame statements, the payload `01 40`. -/
def sender : State := loaded [0x01#8, 0x40#8]

theorem witness_FrameRoundTrip :
    let r := loaded [0xAB#8, 0x26#8, 0x14#8]
    sender.halted = false ∧ r.halted = false ∧ sender.len.toNat = 2 ∧ 2 ≤ 31 ∧ r.params.key = sender.params.key ∧
    see .encode sender State.len = some r.len ∧ see .encode sender (bytes 3) = some (bytes 3 r) := by decide +kernel

/-- The byte `k = 1` differs and no other. -/
theorem witness_OneByteCorruptionIsDetected :
    let r := loaded [0xAB#8, 0x27#8, 0x14#8]
    sender.halted = false ∧ r.halted = false ∧ sender.len.toNat = 2 ∧ 1 ≤ 2 ∧ r.params.key = sender.params.key ∧
    see .encode sender State.len = some r.len ∧
    see .encode sender (fun a => (List.range 3).map fun j => bufAt a.buf j == bufAt r.buf j) =
      some [true, false, true] := by decide +kernel

theorem witness_KeyMismatchDependsOnLengthOnly :
    let r : State := { loaded [0xAB#8, 0x26#8, 0x14#8] with params := { quick with key := Config.testKey8 } }
    sender.halted = false ∧ r.halted = false ∧ sender.len.toNat = 2 ∧ see .encode sender State.len = some r.len ∧
    see .encode sender (bytes 3) = some (bytes 3 r) ∧
    crc8 ((List.range 2).map fun j => cipherMask quick.key 3 j ^^^ cipherMask r.params.key 3 j) ≠
      cipherMask quick.key 3 2 ^^^ cipherMask r.params.key 3 2 ∧
    crc8 ((List.range 2).map fun j => cipherMask quick.key 3 j ^^^ cipherMask quick.key 3 j) =
      cipherMask quick.key 3 2 ^^^ cipherMask quick.key 3 2 := by decide +kernel

theorem witness_MessageRoundTrip :
    ({ idle with msgId := 0x02#8 } : State).halted = false ∧ ({ idle with msgId := 0x02#8 } : State).msgId = 0x02#8 ∧
    ({ idle with msgId := 0x01#8 } : State).msgId = 0x01#8 ∧ (loaded [0x01#8, 0x40#8]).halted = false ∧
    see .decmsg (loaded [0x01#8, 0x40#8]) State.result = some .ok := by decide

/-- The message of program P1, at both ends. -/
theorem witness_PipelineDeliversTheMessage :
    let s : State := { idle with msgId := 0x01#8, pwmValue := 0x40#8 }
    let r : State := { loaded [0xAB#8, 0x26#8, 0x14#8] with params := Params.withDefaults Config.testKey5 .narrow }
    s.halted = false ∧ r.halted = false ∧ s.msgId = 0x01#8 ∧ r.params.key = s.params.key ∧
    r.params.schema = s.params.schema ∧
    see .encmsg s (fun s1 => see .encode s1 (fun s2 => (s2.len, bytes 3 s2))) = some (some (r.len, bytes 3 r)) := by
  decide +kernel

theorem witness_PatternPlaysTheCode :
    quick.Valid ∧ 5 < quick.preLen ∧ 7 < 8 ∧ 3 < quick.bitSteps := ⟨quick_valid, by decide, by decide, by decide⟩

/-- A state for each of the six cases, at the last shown step and at the completing one. -/
theorem witness_TickEventByCases :
    quick.Valid ∧ idle.params = quick ∧ announcing.params = quick ∧ halted.params = quick ∧
    (idle.active = false ∧ idle.halted = false) ∧
    (({ halted with active := false } : State).active = false ∧ ({ halted with active := false } : State).halted = true) ∧
    (announcing.active = true ∧ announcing.started = false ∧ announcing.halted = false ∧ halted.halted = true) ∧
    ((37#32 + 1#32 - 1#32).toNat < quick.patternTicks ∧ quick.patternTicks ≤ (38#32 + 1#32 - 1#32 : Tick).toNat) :=
  ⟨quick_valid, rfl, rfl, rfl, by decide, by decide, by decide, by decide⟩

theorem witness_TickTouchesOnlyTheSchedule :
    ∃ t : State, ({ announcing with inputs := [.tick] } : State).inputs = .tick :: [] ∧
      step { announcing with inputs := [.tick] } = .next t ∧ announcing.halted = false := ⟨_, rfl, rfl, rfl⟩

theorem witness_TicksCommuteWithCodec :
    isCodec .decode = true ∧ isCodec (.wr 0x01#8 0x20#8) = true ∧ isCodec (.illegal 0x09#8) = true ∧
    isCodec (.wr 0x00#8 0x06#8) = true ∧ isCodec (.wr 0x00#8 0x09#8) = true ∧ isCodec (.rd 0x04#8 0x00#8) = true ∧
    isCodec (.rd 0x07#8 0x00#8) = true := by decide

/-- The first tick, and the last one that shows the pattern, with a `HALT` among the events. -/
theorem witness_AnnouncementPlaysInFull :
    quick.Valid ∧ announcing.params = quick ∧ announcing.JustAccepted 0x05#8 ∧
    (Event.reset ∉ [Event.tick, .host 0x10008#17] ∧ tickCount [.tick, .host 0x10008#17] = 1) ∧
    (Event.reset ∉ List.replicate 38 Event.tick ∧ tickCount (List.replicate 38 .tick) = quick.patternTicks) :=
  ⟨quick_valid, rfl, ⟨rfl, rfl, rfl⟩, by decide, by decide⟩

theorem witness_AnnouncementCompletes :
    quick.Valid ∧ announcing.params = quick ∧ announcing.JustAccepted 0x05#8 ∧
    Event.reset ∉ Event.host 0x10008#17 :: List.replicate 38 Event.tick ∧
    tickCount (.host 0x10008#17 :: List.replicate 38 .tick) = quick.patternTicks :=
  ⟨quick_valid, rfl, ⟨rfl, rfl, rfl⟩, by decide, by decide⟩

theorem witness_HaltedPatternIsPeriodic :
    quick.Valid ∧ halted.params = quick ∧ halted.halted = true ∧ halted.JustAccepted halted.haltCode ∧
    Event.reset ∉ List.replicate 39 Event.tick ∧ 1 ≤ tickCount (List.replicate 39 .tick) ∧
    (tickCount (List.replicate 39 .tick) - 1) % (quick.patternTicks + 1) = quick.patternTicks :=
  ⟨quick_valid, rfl, rfl, ⟨rfl, rfl, rfl⟩, by decide, by decide, by decide⟩

theorem witness_StepKeepsTheInvariants :
    ∃ t : State, Inv { halted with inputs := [.tick] } ∧ step { halted with inputs := [.tick] } = .next t :=
  ⟨_, ⟨by decide, by decide, by decide, by decide⟩, rfl⟩

theorem witness_StepKeepsPinAndSchedule :
    ∃ t : State, PinShowsSchedule { announcing.tickEvent with inputs := [.tick] } ∧
      step { announcing.tickEvent with inputs := [.tick] } = .next t :=
  ⟨_, ⟨by decide, by decide, by decide, by decide⟩, rfl⟩

/-- The state after power-on, and the halted block after one more step. -/
theorem witness_ReachableStatesKeepTheInvariants :
    Reachable State.reset ∧ Reachable idle ∧ idle.inputs.head? ≠ some .reset ∧
    Reachable (idle.offer ⟨false, true, none⟩) ∧ Reachable (idle.tickEvent) :=
  have start : Reachable idle := .reset quick draw quick_valid
  have offered : Reachable (idle.offer ⟨false, true, none⟩) := .offer idle _ start
  ⟨.reset Config.params (resetDraw 0) config_params_valid, start, by decide, offered, .step _ _ offered rfl⟩

theorem witness_PwmMapIsMonotoneInRange : (-129 : Int) ≤ 128 := by decide

/-- The receiver's parameters in the source's scenario S8. -/
def receiver : HostParams where
  endpoint := .receiver
  failsafeTimeout := 500
  neutralUs := 1400
  periodSetPwm := 20
  periodReply := 100
  gatherPeriod := 100
  radio := ⟨76, 3, 250⟩
  pins := ⟨13, 9⟩
  stale := .notSent

/-- R197: the parameters of the scenario meet the actuator's range, which takes in both of its ends and nothing beyond. -/
theorem test_receiver_valid :
    receiver.Valid ∧ ({ receiver with neutralUs := 1000 } : HostParams).Valid ∧
    ({ receiver with neutralUs := 2000 } : HostParams).Valid ∧
    ¬ ({ receiver with neutralUs := 999 } : HostParams).Valid ∧
    ¬ ({ receiver with neutralUs := 2001 } : HostParams).Valid :=
  ⟨⟨by decide, by decide⟩, ⟨by decide, by decide⟩, ⟨by decide, by decide⟩,
    fun v => absurd v.neutral_inRange.1 (by decide), fun v => absurd v.neutral_inRange.2 (by decide)⟩

/-- A host whose counters are all zero, with its block. -/
def linkOf (s : State) : Link :=
  { Link.initial ⟨0, 0, 0, 0, Vector.replicate 20 0x00#8, false, false⟩ s with phase := .loop }

/-- An iteration in which nothing arrives and every collaborator succeeds. -/
def quiet (now : Nat) : LoopInputs where
  initOk := true
  now := now
  poll := .nothing
  throttle := 0x40#8
  sendOk := true
  refresh := some (Vector.replicate 20 0x22#8)

/-- P4: nothing at 500, the report at 501. -/
theorem test_failsafe :
    (linkOf idle).failsafe receiver 500 = linkOf idle ∧
    ((linkOf idle).failsafe receiver 501).actuator = [1400] ∧
    ((linkOf idle).failsafe receiver 501).block = { idle with arg := 0x05#8, active := true, annCode := 0x05#8 } := by
  decide

/-- P3, R284, R194: a failed `init` halts the block with `HW_INIT`, and no iteration follows; a successful one enters the
loop and leaves the block as it is. -/
theorem test_startUp :
    let l := Link.initial (linkOf idle).session idle
    (Link.run receiver [{ quiet 1 with initOk := false }, quiet 501] l).block =
      { idle with arg := 0x01#8, haltCode := 0x01#8, halted := true, active := true, annCode := 0x01#8 } ∧
    (Link.run receiver [{ quiet 1 with initOk := false }, quiet 501] l).actuator = [] ∧
    Link.run receiver [quiet 1] l = { linkOf idle with radioInits := [receiver.radio] } := by decide +kernel

/-- R191: a snapshot that is not fresh is not sent, or sent with the mark, as the host's parameter says. -/
theorem test_stale :
    (Link.periodicSend receiver 100 0x00#8 true (linkOf idle)).sent = [] ∧
    (Link.periodicSend { receiver with stale := .sentMarked } 100 0x00#8 true (linkOf idle)).sent.map
      Transmission.markedStale = [true] := by decide +kernel

/-- R182: a `SetPwm` has no effect on a transmitter's session. -/
theorem test_dispatch_transmitter :
    (Link.receive { receiver with endpoint := .transmitter } 600 (.frame [0xAB#8, 0x26#8, 0x14#8]) (linkOf idle)).session =
      (linkOf idle).session := by decide +kernel

theorem witness_FailsafeReportsOncePerSilence :
    receiver.endpoint = .receiver ∧ (linkOf idle).session.timeoutReported = false ∧ [501, 502] ≠ [] ∧
    (∀ now ∈ [501, 502], receiver.failsafeTimeout < now - (linkOf idle).session.lastValidCommandTick) ∧
    (linkOf idle).phase = .loop ∧ [quiet 501] ≠ [] ∧
    (∀ x ∈ [quiet 501], receiver.failsafeTimeout < x.now - (linkOf idle).session.lastValidCommandTick) ∧
    ∀ k : Fin 2, (Link.run receiver ([quiet 501].take k) (linkOf idle)).session.lastValidCommandTick =
      (linkOf idle).session.lastValidCommandTick := by decide +kernel

/-- The receiver's block has other blink constants. -/
theorem witness_ThrottleReachesTheActuator :
    let rx := linkOf { announcing with params := Params.withDefaults Config.testKey5 .narrow }
    ({ receiver with endpoint := .transmitter } : HostParams).endpoint = .transmitter ∧ receiver.endpoint = .receiver ∧
    receiver.periodSetPwm ≤ 20 - (linkOf idle).session.lastSentSetPwm ∧ (linkOf idle).block.halted = false ∧
    rx.block.halted = false ∧ rx.block.params.key = (linkOf idle).block.params.key ∧
    rx.block.params.schema = (linkOf idle).block.params.schema ∧ rx.block.params ≠ (linkOf idle).block.params := by
  decide

/-- Program P1, whole: the throttle 0x40 becomes the frame `AB 26 14` and then a pulse of 1752. -/
theorem test_throttle :
    (Link.periodicSend { receiver with endpoint := .transmitter } 20 0x40#8 true (linkOf idle)).sent =
      [⟨[0xAB#8, 0x26#8, 0x14#8], false⟩] ∧
    (Link.receive receiver 600 (.frame [0xAB#8, 0x26#8, 0x14#8]) (linkOf idle)).actuator = [1752] := by decide +kernel

end Sys2Proof.Tests
end

section
/-! The oldest event of a step, by kind (R10, R11, R68): a bus transaction runs its instruction; tick and reset events
have meanings of their own. -/

namespace Sys2Proof.Machine

/-- A step performs the oldest event, at the state without it. -/
theorem step_eq_performEvent {s : State} {e : Event} {es : List Event} (h : s.inputs = e :: es) :
    step s = performEvent e (s.setInputs es) := by
  rw [step_of_inputs_cons h, performEvent_eq_next]

theorem performEvent_host (w : BusWord) (s : State) : performEvent (.host w) s = exec (decodeBus17 w) s := rfl

/-- Settles O6: the oldest event is performed, and performing a bus transaction is `exec` of what it decodes to. -/
theorem stepRunsTheDecodedInstruction : Obligations.StepRunsTheDecodedInstruction := by
  rintro s w es i hinputs rfl
  calc step s = performEvent (.host w) (s.setInputs es) := step_eq_performEvent hinputs
    _ = exec (decodeBus17 w) (s.setInputs es) := performEvent_host w _

/-- Settles O7, one clause for each kind of oldest event that is no instruction, and one for no event at all. -/
theorem stepPerformsTickResetAndNothing : Obligations.StepPerformsTickResetAndNothing := by
  refine ⟨?tick, ?reset, ?nothing⟩
  case tick => exact fun _ _ hinputs => step_of_inputs_cons hinputs
  case reset => exact fun _ _ hinputs => step_of_inputs_cons hinputs
  case nothing => exact fun _ hinputs => step_of_inputs_nil hinputs

end Sys2Proof.Machine
end

section
/-! Reads and writes of the register map (R21, R62, R63), each by what stands at the address; and the values a reset
leaves there (R40, R281). -/

namespace Sys2Proof.Machine

variable (s : State)

/-! ## Reads -/

/-- A read records what stands at the address and changes nothing else (R62). -/
theorem exec_rd {a : Byte} {r : Reg} (at_a : regOf a = r) (d : Byte) :
    exec (.rd a d) s = .next { s with rdata := some (s.readReg r) } := by
  subst at_a; rfl

/-- The bits of `ANN_STATUS` weigh 1, 2, 4 and 8 (R27). -/
theorem State.annStatus_eq_ofNat : s.annStatus =
    BitVec.ofNat 8 (s.active.toNat + 2 * s.started.toNat + 4 * s.halted.toNat + 8 * s.led.toNat) := by
  have weights : ∀ active started halted led : Bool,
      (BitVec.ofBool active).zeroExtend 8 ||| (BitVec.ofBool started).zeroExtend 8 <<< 1 |||
        (BitVec.ofBool halted).zeroExtend 8 <<< 2 ||| (BitVec.ofBool led).zeroExtend 8 <<< 3 =
      BitVec.ofNat 8 (active.toNat + 2 * started.toNat + 4 * halted.toNat + 8 * led.toNat) := by decide
  exact weights s.active s.started s.halted s.led

/-- Settles O12: `RD` of each address of the map of R21, by the register that stands there. -/
theorem readReturnsTheRegister : Obligations.ReadReturnsTheRegister := by
  intro s d
  refine ⟨exec_rd s rfl d, exec_rd s rfl d, exec_rd s rfl d, exec_rd s rfl d, exec_rd s rfl d, ?annStatus,
    exec_rd s rfl d, exec_rd s rfl d, exec_rd s rfl d, exec_rd s rfl d, ?rs, ?buf, ?reserved⟩
  case annStatus => rw [← s.annStatus_eq_ofNat]; exact exec_rd s rfl d
  case rs => exact fun j h => exec_rd s (regOf_rs h) d
  case buf => exact fun i h => exec_rd s (regOf_buf h) d
  case reserved => exact fun a gap => exec_rd s ((regOf_eq_reserved_iff a).mpr gap) d

/-! ## Reset -/

/-- The registers whose reset value R40 leaves unspecified. -/
def Reg.drawn : Reg → Bool
  | .msgId => true
  | .pwmValue => true
  | .rs _ => true
  | .buf _ => true
  | .cmd => false
  | .arg => false
  | .len => false
  | .result => false
  | .crc => false
  | .annStatus => false
  | .annCode => false
  | .haltCode => false
  | .reserved => false

/-- Every register with a specified reset value reads 0x00 after reset (R40). -/
theorem readReg_resetOf (p : Params) (d : ResetDraw) {r : Reg} (specified : r.drawn = false) :
    (State.resetOf p d).readReg r = 0x00#8 := by
  cases r with
  | msgId => cases specified
  | pwmValue => cases specified
  | rs j => cases specified
  | buf i => cases specified
  | annStatus => exact (State.resetOf p d).annStatus_eq_ofNat
  | _ => rfl

/-- No register below address 0x10 is one of them (R21). -/
theorem regOf_not_drawn {a : Byte} (h : a.toNat < 0x10) : (regOf a).drawn = false := by
  revert a; decide

/-- Settles O11: below address 0x10 stand the registers whose reset value is 0x00. -/
theorem readsAfterReset : Obligations.ReadsAfterReset := by
  intro p d a control
  rw [exec_rd _ rfl, readReg_resetOf p d (regOf_not_drawn control)]

/-- Settles O10: a reset event writes each field as `State.resetEvent` does, whatever the state before it. -/
theorem resetEventWritesTheResetValues : Obligations.ResetEventWritesTheResetValues := by
  intro s es hinputs
  exact step_of_inputs_cons hinputs

/-! ## Writes -/

/-- A write anywhere but to `CMD` stores, unless the block is halted (R63, R232). -/
theorem exec_wr_of_ne_cmd {a : Byte} {r : Reg} (at_a : regOf a = r) (other : r ≠ .cmd) (v : Byte) :
    exec (.wr a v) s = .next (s.hostWrite fun s => s.storeReg r v) := by
  subst at_a
  have stores : (fun s : State => s.doWr a v) = fun s => s.storeReg (regOf a) v := funext fun _ => if_neg other
  rw [exec_eq_next, effectOf, stores]

/-- On a block that is not halted it stores. -/
theorem exec_wr_stores {a : Byte} {r : Reg} (at_a : regOf a = r) (other : r ≠ .cmd) (v : Byte)
    (running : s.halted = false) : exec (.wr a v) s = .next (s.storeReg r v) := by
  rw [exec_wr_of_ne_cmd s at_a other, s.hostWrite_of_not_halted _ running]

/-- Settles O13: `WR` to each `RW` register of the map of R21. -/
theorem writeStoresTheByte : Obligations.WriteStoresTheByte := by
  intro s v running
  refine ⟨exec_wr_stores s (r := .arg) rfl nofun v running, exec_wr_stores s (r := .len) rfl nofun v running,
    exec_wr_stores s (r := .msgId) rfl nofun v running, exec_wr_stores s (r := .pwmValue) rfl nofun v running,
    ?rs, ?buf⟩
  case rs => exact fun j h => exec_wr_stores s (regOf_rs h) nofun v running
  case buf => exact fun i h => exec_wr_stores s (regOf_buf h) nofun v running

/-- At the read-only and the reserved addresses of R21 stands no register that takes a write. -/
theorem regOf_ignores_writes {a : Byte}
    (h : 0x03 ≤ a.toNat ∧ a.toNat ≤ 0x0F ∨ 0x12 ≤ a.toNat ∧ a.toNat ≤ 0x1F ∨
      0x34 ≤ a.toNat ∧ a.toNat ≤ 0x3F ∨ 0x60 ≤ a.toNat) :
    regOf a ≠ .cmd ∧ (regOf a).writable = false := by
  revert a; decide

/-- Settles O14: halted, the block ignores every write; otherwise the store of a register that is not writable changes
nothing. -/
theorem readOnlyAndReservedIgnoreWrites : Obligations.ReadOnlyAndReservedIgnoreWrites := by
  intro s a v gap
  obtain ⟨other, locked⟩ := regOf_ignores_writes gap
  rw [exec_wr_of_ne_cmd s rfl other]
  rcases s.hostWrite_cases fun s => s.storeReg (regOf a) v with ⟨_, ignored⟩ | ⟨_, stored⟩
  · rw [ignored]
  · rw [stored, s.storeReg_of_not_writable _ v locked]

end Sys2Proof.Machine
end

section
/-! The two readings of a write to `CMD` (R22, R93), and the table of writers of R42: what each command, and each store
of a register, may have changed. -/

namespace Sys2Proof.Machine

variable (s : State)

/-! ## The command a write to `CMD` carries -/

/-- The command an opcode decodes to is the command a write of it to `CMD` runs, opcode by opcode (R93). -/
theorem effectOf_decodeCmd8 (op : Byte) : effectOf (decodeCmd8 op) s = s.hostWrite fun s => s.runCommand op := by
  unfold decodeCmd8
  split <;> simp_all [effectOf, State.runCommand]

/-- Every opcode decodes to a command, not to a bus primitive. -/
theorem isCommand_decodeCmd8 (op : Byte) : isCommand (decodeCmd8 op) = true := by
  unfold decodeCmd8
  split <;> rfl

/-- Settles O16: both readings have the effect of `runCommand`, behind the same lock. -/
theorem writeToCmdExecutesItsCommand : Obligations.WriteToCmdExecutesItsCommand := by
  intro op s
  rw [exec_eq_next, exec_eq_next, effectOf_decodeCmd8]
  rfl

theorem canonical_wr_cmd (v : Byte) : canonical (.wr 0x00#8 v) = decodeCmd8 v := rfl

theorem canonical_wr_of_ne {a : Byte} (h : a ≠ 0x00#8) (v : Byte) : canonical (.wr a v) = .wr a v := if_neg h

theorem effectOf_canonical (i : Instr) : effectOf (canonical i) s = effectOf i s := by
  cases i with
  | wr a v =>
    by_cases h : a = 0x00#8
    · subst h; exact effectOf_decodeCmd8 s v
    · rw [canonical_wr_of_ne h]
  | _ => rfl

/-! ## The table of writers -/

/-- The table of R42 for the instruction `c` that led from `s` to `t`: the fields `c` may have changed. -/
structure WriterRow (c : Instr) (s t : State) : Prop where
  arg : t.arg ≠ s.arg → c = .wr 0x01#8 t.arg
  len : t.len ≠ s.len → c = .wr 0x02#8 t.len ∨ c ∈ [.encode, .decode, .encmsg]
  result : t.result ≠ s.result → isCommand c = true
  crc : t.crc ≠ s.crc → c ∈ [.crc8, .encode, .decode]
  schedule : t.active ≠ s.active ∨ t.started ≠ s.started ∨ t.annCode ≠ s.annCode → c ∈ [.report, .halt]
  halt : t.halted ≠ s.halted ∨ t.haltCode ≠ s.haltCode → c = .halt
  msgId : t.msgId ≠ s.msgId → c = .wr 0x10#8 t.msgId ∨ c = .decmsg
  pwmValue : t.pwmValue ≠ s.pwmValue → c = .wr 0x11#8 t.pwmValue ∨ c = .decmsg
  rs : ∀ (j : Nat) (h : j < 20), t.rs[j] ≠ s.rs[j] → c = .wr (BitVec.ofNat 8 (0x20 + j)) t.rs[j] ∨ c = .decmsg
  buf : ∀ (j : Nat) (h : j < 32), t.buf[j] ≠ s.buf[j] →
    c = .wr (BitVec.ofNat 8 (0x40 + j)) t.buf[j] ∨ c ∈ [.cipher, .encode, .decode, .encmsg]
  rdata : t.rdata ≠ s.rdata → ∃ a d : Byte, c = .rd a d

/-- An instruction that changed nothing breaks no row. -/
theorem WriterRow.refl (c : Instr) : WriterRow c s s := by
  constructor <;> simp

theorem State.doRd_writerRow (a d : Byte) : WriterRow (.rd a d) s (s.doRd a) := by
  constructor <;> simp [State.doRd]

theorem State.doNop_writerRow : WriterRow .nop s s.doNop := by
  constructor <;> simp [State.doNop, isCommand]

theorem State.doCrc8_writerRow : WriterRow .crc8 s s.doCrc8 := by
  unfold State.doCrc8; split <;> constructor <;> simp [isCommand]

theorem State.doCipher_writerRow : WriterRow .cipher s s.doCipher := by
  unfold State.doCipher; split <;> constructor <;> simp [isCommand]

theorem State.doEncode_writerRow : WriterRow .encode s s.doEncode := by
  unfold State.doEncode; split <;> constructor <;> simp [isCommand]

theorem State.doDecode_writerRow : WriterRow .decode s s.doDecode := by
  unfold State.doDecode; dsimp only; (repeat' split) <;> constructor <;> simp [isCommand]

theorem State.doEncmsg_writerRow : WriterRow .encmsg s s.doEncmsg := by
  unfold State.doEncmsg; (repeat' split) <;> constructor <;> simp [isCommand]

theorem State.doDecmsg_writerRow : WriterRow .decmsg s s.doDecmsg := by
  unfold State.doDecmsg; dsimp only; (repeat' split) <;> constructor <;> simp [isCommand]

theorem State.doReport_writerRow : WriterRow .report s s.doReport := by
  cases h : s.active
  · rw [s.doReport_of_idle h]; constructor <;> simp [isCommand]
  · rw [s.doReport_of_active h]; constructor <;> simp [isCommand]

theorem State.doHalt_writerRow : WriterRow .halt s s.doHalt := by
  cases h : s.active
  · rw [s.doHalt_of_idle h]; constructor <;> simp [isCommand]
  · rw [s.doHalt_of_active h]; constructor <;> simp [isCommand]

theorem State.doIllegal_writerRow (op : Byte) : WriterRow (.illegal op) s s.doIllegal := by
  constructor <;> simp [State.doIllegal, isCommand]

theorem eq_of_getElem_set_ne {n : Nat} {b : Vector Byte n} {x : Byte} {i j : Nat} (hi : i < n) {hj : j < n}
    (changed : (b.set i x hi)[j] ≠ b[j]) : i = j := by
  by_contra other
  exact changed (Vector.getElem_set_ne hi hj other)

/-- A store changes the register it writes and no other (R63). -/
theorem State.storeReg_writerRow (r : Reg) (v : Byte) : WriterRow (.wr (addrOf r) v) s (s.storeReg r v) := by
  cases r with
  | rs j =>
    constructor
    case rs =>
      intro k hk changed
      obtain rfl := eq_of_getElem_set_ne j.isLt changed
      exact .inl (by simp [State.storeReg, addrOf])
    all_goals simp [State.storeReg]
  | buf i =>
    constructor
    case buf =>
      intro k hk changed
      obtain rfl := eq_of_getElem_set_ne i.isLt changed
      exact .inl (by simp [State.storeReg, addrOf])
    all_goals simp [State.storeReg]
  | _ => constructor <;> simp [State.storeReg, addrOf]

/-- `WR` anywhere but to `CMD` keeps to its row, at a reserved address because it stores nothing. -/
theorem State.doWr_writerRow {a : Byte} (h : a ≠ 0x00#8) (v : Byte) : WriterRow (.wr a v) s (s.doWr a v) := by
  rw [s.doWr_of_ne a v h]
  by_cases reserved : regOf a = .reserved
  · rw [reserved]; exact .refl s _
  · have row := s.storeReg_writerRow (regOf a) v
    rwa [addrOf_regOf a reserved] at row

theorem WriterRow.hostWrite {c : Instr} {f : State → State} (row : WriterRow c s (f s)) :
    WriterRow c s (s.hostWrite f) := by
  rcases s.hostWrite_cases f with ⟨_, ignored⟩ | ⟨_, performed⟩
  · rw [ignored]; exact .refl s c
  · rw [performed]; exact row

/-- Every command keeps to its row. -/
theorem command_writerRow {c : Instr} (h : isCommand c = true) : WriterRow c s (effectOf c s) := by
  cases c with
  | rd a d => cases h
  | wr a v => cases h
  | nop => exact s.doNop_writerRow.hostWrite
  | crc8 => exact s.doCrc8_writerRow.hostWrite
  | cipher => exact s.doCipher_writerRow.hostWrite
  | encode => exact s.doEncode_writerRow.hostWrite
  | decode => exact s.doDecode_writerRow.hostWrite
  | encmsg => exact s.doEncmsg_writerRow.hostWrite
  | decmsg => exact s.doDecmsg_writerRow.hostWrite
  | report => exact s.doReport_writerRow.hostWrite
  | halt => exact s.doHalt_writerRow.hostWrite
  | illegal op => exact (s.doIllegal_writerRow op).hostWrite

/-- Every instruction keeps to the row of the instruction it amounts to. -/
theorem effectOf_writerRow (i : Instr) : WriterRow (canonical i) s (effectOf i s) := by
  cases i with
  | rd a d => exact s.doRd_writerRow a d
  | wr a v =>
    by_cases h : a = 0x00#8
    · subst h
      rw [← effectOf_canonical]
      exact command_writerRow s (isCommand_decodeCmd8 v)
    · rw [canonical_wr_of_ne h]
      exact WriterRow.hostWrite s (f := fun s => s.doWr a v) (s.doWr_writerRow h v)
  | _ => exact command_writerRow s rfl

/-- Only `RD` amounts to an `RD`. -/
theorem eq_rd_of_canonical {i : Instr} {a d : Byte} (h : canonical i = .rd a d) : i = .rd a d := by
  cases i with
  | wr b v =>
    by_cases hb : b = 0x00#8
    · subst hb
      have command := isCommand_decodeCmd8 v
      rw [← canonical_wr_cmd, h] at command
      cases command
    · rw [canonical_wr_of_ne hb] at h
      cases h
  | _ => exact h

/-- Settles O34: the rows of the table, and the fields no instruction writes at all. -/
theorem writerTable : Obligations.WriterTable := by
  intro i s t completes
  obtain rfl : effectOf i s = t := by simpa [exec_eq_next] using completes
  have row := effectOf_writerRow s i
  have kept := effectOf_keepsTickState s i
  refine ⟨row.arg, row.len, row.result, row.crc, row.schedule, row.halt, row.msgId, row.pwmValue, row.rs, row.buf,
    kept.led, kept.tickCnt, kept.startTick, kept.params, kept.inputs, kept.resets, fun changed => ?_⟩
  obtain ⟨a, d, read⟩ := row.rdata changed
  exact ⟨a, d, eq_rd_of_canonical read⟩

end Sys2Proof.Machine
end

section
/-! The invariants of R39 and the tie between the pin and the schedule (R214, R218): they hold after a reset, and each
kind of event keeps them. -/

namespace Sys2Proof.Machine

variable (s : State)

/-! ## The halt -/

/-- Settles O18: a host access keeps `HALTED` set, and a tick event does not write it. -/
theorem haltedIsStickyUntilReset : Obligations.HaltedIsStickyUntilReset := by
  intro s t halted no_reset completes
  obtain ⟨_, rfl⟩ | ⟨e, es, hinputs, rfl⟩ := step_cases completes
  · exact halted
  · cases e with
    | host w => exact ((effectOf_hostAnnounces (s.setInputs es) w).halt halted).1
    | tick => exact (s.setInputs es).tickEvent_keepsHostState.halted.trans halted
    | reset => exact absurd (by rw [hinputs]; rfl) no_reset

/-- `HALT` leaves the block announcing: what it announced before, or the code it was given (R231). -/
theorem State.doHalt_active : s.doHalt.active = true := by
  cases h : s.active
  · rw [s.doHalt_of_idle h]; simp
  · rw [s.doHalt_of_active h]; simpa using h

/-- A host access that halts the block leaves it announcing. -/
theorem active_of_host_halts (i : Instr) (running : s.halted = false) (halts : (effectOf i s).halted = true) :
    (effectOf i s).active = true := by
  have is_halt : canonical i = .halt := (effectOf_writerRow s i).halt (.inl (by simp [halts, running]))
  have performed : effectOf i s = s.doHalt := by
    rw [← effectOf_canonical, is_halt]; exact s.hostWrite_of_not_halted _ running
  rw [performed, s.doHalt_active]

/-- After the re-arm a halted block announces (R233). -/
theorem State.active_of_rearm_halted (halted : s.rearm.halted = true) : s.rearm.active = true := by
  rw [s.rearm_keepsHostState.halted] at halted
  cases h : s.active
  · rw [s.rearm_of_halted_idle halted h]; rfl
  · rw [s.rearm_of_active h, h]

/-- After a tick event a halted block announces, whatever it did before (R39 (e)). -/
theorem State.active_of_tickEvent_halted (halted : s.tickEvent.halted = true) : s.tickEvent.active = true := by
  rw [State.tickEvent_eq] at halted ⊢
  exact State.active_of_rearm_halted _ halted

/-! ## The schedule within a tick event -/

/-- R39 (a) and (b): the part of the invariants that speaks of the schedule. -/
structure ScheduleSound (s : State) : Prop where
  started_active : s.started = true → s.active = true
  idle_dark : s.active = false → s.led = false

/-- A tick event while announcing shows a step or completes; either way the schedule is sound. -/
theorem State.playStep_scheduleSound (announcing : s.active = true) : ScheduleSound s.playStep := by
  rcases Nat.lt_or_ge s.stepIndex s.params.totalSteps with inside | past
  · rw [s.playStep_of_inside inside]; constructor <;> simp [announcing]
  · rw [s.playStep_of_past past]; constructor <;> simp

theorem ScheduleSound.rearm {s : State} (h : ScheduleSound s) : ScheduleSound s.rearm := by
  rcases s.rearm_cases with ⟨_, _, accepted⟩ | unchanged
  · rw [accepted]; constructor <;> simp
  · rw [unchanged]; exact h

theorem State.latchStart_active : s.latchStart.active = s.active := by
  cases h : s.started
  · rw [s.latchStart_of_unstarted h]; rfl
  · rw [s.latchStart_of_started h]

theorem State.latchStart_started : s.latchStart.started = true := by
  cases h : s.started
  · rw [s.latchStart_of_unstarted h]; rfl
  · rw [s.latchStart_of_started h, h]

/-- A property that playing a step establishes on a started announcement, that the dark pin of an idle block
establishes, and that the re-arm keeps, holds after every tick event of a block that is started only while active. -/
theorem State.tickEvent_establishes {P : State → Prop} (sound : s.started = true → s.active = true)
    (play : ∀ u : State, u.active = true → u.started = true → P u.playStep)
    (dark : ∀ u : State, u.active = false → u.started = false → P (u.setLed false))
    (rearm : ∀ u : State, P u → P u.rearm) : P s.tickEvent := by
  rw [State.tickEvent_eq]
  apply rearm
  cases h : s.active
  · exact dark _ h (by simpa [h] using sound)
  · exact play _ ((State.latchStart_active _).trans h) (State.latchStart_started _)

theorem State.tickEvent_scheduleSound (sound : s.started = true → s.active = true) : ScheduleSound s.tickEvent := by
  refine s.tickEvent_establishes sound ?play ?dark fun _ => ScheduleSound.rearm
  case play => exact fun u announcing _ => u.playStep_scheduleSound announcing
  case dark => exact fun u idle unstarted => ⟨by simp [unstarted], by simp⟩

/-! ## The invariants -/

/-- R39 (d): every code of `RESULT` is at most 4 (R25). -/
theorem ResultCode.toByte_le_four (c : ResultCode) : c.toByte.toNat ≤ 4 := by
  cases c <;> decide

theorem Inv.resetOf (p : Params) (d : ResetDraw) : Inv (State.resetOf p d) := by
  constructor <;> simp [State.resetOf, ResultCode.toByte]

theorem Inv.resetEvent : Inv s.resetEvent := by
  constructor <;> simp [ResultCode.toByte]

/-- What waits in `inputs` does not matter to the invariants. -/
theorem Inv.setInputs {s : State} (h : Inv s) (es : List Event) : Inv (s.setInputs es) :=
  ⟨h.started_active, h.idle_dark, h.result_le, h.halted_active⟩

theorem Inv.tickEvent {s : State} (h : Inv s) : Inv s.tickEvent :=
  have sound := s.tickEvent_scheduleSound h.started_active
  ⟨sound.started_active, sound.idle_dark, ResultCode.toByte_le_four _, s.active_of_tickEvent_halted⟩

/-- A host access leaves the schedule and the pin alone or makes an idle block announce, so it keeps the invariants. -/
theorem Inv.host {s : State} (h : Inv s) (w : BusWord) : Inv (effectOf (decodeBus17 w) s) := by
  have halted_active : (effectOf (decodeBus17 w) s).active = s.active ∨ (effectOf (decodeBus17 w) s).active = true :=
    (effectOf_hostAnnounces s w).schedule.imp (·.1) (·.2.1)
  have led := (effectOf_keepsTickState s (decodeBus17 w)).led
  constructor
  case started_active =>
    rcases (effectOf_hostAnnounces s w).schedule with ⟨active, started, _⟩ | ⟨_, _, unstarted⟩
    · rw [active, started]; exact h.started_active
    · simp [unstarted]
  case idle_dark =>
    intro idle
    rcases halted_active with active | active
    · rw [led]; exact h.idle_dark (active ▸ idle)
    · simp [active] at idle
  case result_le => exact ResultCode.toByte_le_four _
  case halted_active =>
    intro halted
    cases before : s.halted
    · exact active_of_host_halts s _ before halted
    · rcases halted_active with active | active
      · rw [active, h.halted_active before]
      · exact active

/-- A property that does not depend on the events to come and that every kind of event keeps is kept by every step. -/
theorem step_keeps {P : State → Prop} (inputs : ∀ (s : State) (es : List Event), P s → P (s.setInputs es))
    (host : ∀ (s : State) (w : BusWord), P s → P (effectOf (decodeBus17 w) s))
    (tick : ∀ s : State, P s → P s.tickEvent) (reset : ∀ s : State, P s → P s.resetEvent)
    {s t : State} (h : P s) (completes : step s = .next t) : P t := by
  obtain ⟨_, rfl⟩ | ⟨e, es, _, rfl⟩ := step_cases completes
  · exact h
  · have h' := inputs s es h
    cases e with
    | host w => exact host _ w h'
    | tick => exact tick _ h'
    | reset => exact reset _ h'

/-- Settles O54, event by event. -/
theorem stepKeepsTheInvariants : Obligations.StepKeepsTheInvariants := by
  intro s t h completes
  exact step_keeps (P := Inv) (fun _ es h => h.setInputs es) (fun _ w h => h.host w) (fun _ h => h.tickEvent)
    (fun s _ => Inv.resetEvent s) h completes

/-! ## The pin and the schedule -/

/-- With no announcement started, a dark pin is all the schedule asks. -/
theorem PinShowsSchedule.of_unstarted {s : State} (unstarted : s.started = false) (dark : s.led = false) :
    PinShowsSchedule s := by
  constructor <;> simp [unstarted, dark]

theorem PinShowsSchedule.resetOf (p : Params) (d : ResetDraw) : PinShowsSchedule (State.resetOf p d) :=
  .of_unstarted rfl rfl

theorem PinShowsSchedule.setInputs {s : State} (h : PinShowsSchedule s) (es : List Event) :
    PinShowsSchedule (s.setInputs es) :=
  ⟨h.started_active, h.started_inside, h.started_level, h.unstarted_dark⟩

/-- An idle block is dark. -/
theorem PinShowsSchedule.idle_dark {s : State} (h : PinShowsSchedule s) (idle : s.active = false) : s.led = false :=
  h.unstarted_dark (by simpa [idle] using h.started_active)

theorem State.playStep_pinShowsSchedule (announcing : s.active = true) (started : s.started = true) :
    PinShowsSchedule s.playStep := by
  rcases Nat.lt_or_ge s.stepIndex s.params.totalSteps with inside | past
  · rw [s.playStep_of_inside inside]
    exact ⟨fun _ => announcing, fun _ => inside, fun _ => rfl, by simp [started]⟩
  · rw [s.playStep_of_past past]
    exact .of_unstarted rfl rfl

theorem PinShowsSchedule.rearm {s : State} (h : PinShowsSchedule s) : PinShowsSchedule s.rearm := by
  rcases s.rearm_cases with ⟨_, idle, accepted⟩ | unchanged
  · rw [accepted]; exact .of_unstarted rfl (h.idle_dark idle)
  · rw [unchanged]; exact h

theorem PinShowsSchedule.tickEvent {s : State} (h : PinShowsSchedule s) : PinShowsSchedule s.tickEvent := by
  refine s.tickEvent_establishes h.started_active ?play ?dark fun _ => PinShowsSchedule.rearm
  case play => exact State.playStep_pinShowsSchedule
  case dark => exact fun u _ unstarted => .of_unstarted unstarted rfl

/-- The step that is due depends on the tick values and the parameters only. -/
theorem KeepsTickState.stepIndex {s t : State} (kept : KeepsTickState s t) : t.stepIndex = s.stepIndex := by
  simp only [State.stepIndex, State.elapsed, kept.tickCnt, kept.startTick, kept.params]

/-- A host access leaves the schedule as it is, or starts an announcement on a block whose pin is dark. -/
theorem PinShowsSchedule.host {s : State} (h : PinShowsSchedule s) (w : BusWord) :
    PinShowsSchedule (effectOf (decodeBus17 w) s) := by
  have kept := effectOf_keepsTickState s (decodeBus17 w)
  rcases (effectOf_hostAnnounces s w).schedule with ⟨active, started, annCode⟩ | ⟨idle, _, unstarted⟩
  · constructor <;> rw [started]
    case started_active => rw [active]; exact h.started_active
    case started_inside => rw [kept.stepIndex, kept.params]; exact h.started_inside
    case started_level => rw [kept.led, kept.params, annCode, kept.stepIndex]; exact h.started_level
    case unstarted_dark => rw [kept.led]; exact h.unstarted_dark
  · exact .of_unstarted unstarted (kept.led.trans (h.idle_dark idle))

/-- Every step keeps the tie between the pin and the schedule. -/
theorem PinShowsSchedule.step {s t : State} (h : PinShowsSchedule s) (completes : Machine.step s = .next t) :
    PinShowsSchedule t :=
  step_keeps (P := PinShowsSchedule) (fun _ es h => h.setInputs es) (fun _ w h => h.host w) (fun _ h => h.tickEvent)
    (fun _ _ => .of_unstarted rfl rfl) h completes

/-! ## Reachable states -/

/-- Settles O55: after a reset the block is idle, dark and not halted, and `RESULT` is `OK`. -/
theorem invariantsHoldAtReset : Obligations.InvariantsHoldAtReset :=
  ⟨fun p d => ⟨.resetOf p d, .resetOf p d⟩, .resetOf _ _, .resetOf _ _⟩

/-- Both invariants hold along every run from a reset. -/
theorem Reachable.invariants {s : State} (h : Reachable s) : Inv s ∧ PinShowsSchedule s := by
  induction h with
  | reset p d _ => exact invariantsHoldAtReset.1 p d
  | offer s c _ ih => exact ⟨ih.1.setInputs _, ih.2.setInputs _⟩
  | step s t _ completes ih => exact ⟨stepKeepsTheInvariants s t ih.1 completes, ih.2.step completes⟩

/-- Settles O57: R39 (a), (b), (d) and the tie by induction on the run; (c) and (e) are properties of a step. -/
theorem reachableStatesKeepTheInvariants : Obligations.ReachableStatesKeepTheInvariants := by
  intro s reachable
  obtain ⟨inv, shown⟩ := reachable.invariants
  refine ⟨inv.started_active, inv.idle_dark, fun t => haltedIsStickyUntilReset s t, inv.result_le, ?_, shown⟩
  intro halted
  exact s.active_of_tickEvent_halted (s.tickEvent_keepsHostState.halted.trans halted)

end Sys2Proof.Machine
end

section
/-! One clock cycle of a block with no event waiting (R61, R254, R282): a run performs the cycle's events one by one,
each on the state the last one left. -/

namespace Sys2Proof.Machine

variable {s : State}

theorem State.setInputs_eq_self {es : List Event} (h : s.inputs = es) : s.setInputs es = s := by
  subst h; rfl

/-- Offered to a block with no event waiting, a cycle's events are all that waits. -/
theorem State.offer_of_idle (idle : s.inputs = []) (c : Cycle) : s.offer c = s.setInputs c.events := by
  rw [State.offer, idle, List.nil_append]

/-- A run performs the oldest event and goes on with the others. -/
theorem run_setInputs_cons (k : Nat) (e : Event) (es : List Event) :
    core.run (k + 1) (s.setInputs (e :: es)) = core.run k (afterEvent e (s.setInputs es)) := by
  have performed : core.step (s.setInputs (e :: es)) = .next (afterEvent e (s.setInputs es)) :=
    step_of_inputs_cons (s := s.setInputs (e :: es)) rfl
  simp only [Host.Core.run, performed]

/-- One event that comes alone is performed on the block as it stands. -/
theorem run_single_event (idle : s.inputs = []) (e : Event) :
    core.run 1 (s.setInputs [e]) = performEvent e s := by
  rw [run_setInputs_cons, State.setInputs_eq_self idle, performEvent_eq_next]
  rfl

/-- A tick event that comes first is performed on the block as it stands, and the others wait for the state it
leaves. -/
theorem run_tick_first (k : Nat) (es : List Event) :
    core.run (k + 1) (s.setInputs (.tick :: es)) = core.run k (s.tickEvent.setInputs es) := by
  rw [run_setInputs_cons, afterEvent, State.tickEvent_setInputs]

/-- Settles O8, one clause for each form of a cycle: the events it offers, then the run over them. -/
theorem cycleOrder : Obligations.CycleOrder := by
  intro s w idle
  simp only [State.offer_of_idle idle]
  refine ⟨?reset, ?tick_access, ?access, ?tick, ?nothing⟩
  case reset => exact fun _ _ => ⟨run_single_event idle .reset, rfl⟩
  case tick_access =>
    have idle_after_tick : s.tickEvent.inputs = [] := s.tickEvent_keepsHostState.inputs.trans idle
    exact (run_tick_first 1 [.host w]).trans (run_single_event idle_after_tick (.host w))
  case access => exact run_single_event idle (.host w)
  case tick => exact run_single_event idle .tick
  case nothing => exact State.setInputs_eq_self idle

end Sys2Proof.Machine
end

section
/-! Reads after a write (R62, R63, R68). -/

namespace Sys2Proof.Machine

/-- At the `RW` addresses of R21 stand registers that take a write. -/
theorem regOf_writable {a : Byte}
    (h : a.toNat = 0x01 ∨ a.toNat = 0x02 ∨ a.toNat = 0x10 ∨ a.toNat = 0x11 ∨
      0x20 ≤ a.toNat ∧ a.toNat ≤ 0x33 ∨ 0x40 ≤ a.toNat ∧ a.toNat ≤ 0x5F) :
    (regOf a).writable = true := by
  revert a; decide

theorem Reg.ne_of_writable {r q : Reg} (takes : r.writable = true) (locked : q.writable = false) : r ≠ q := by
  rintro rfl
  exact absurd takes (by simp [locked])

/-- After the store at a writable address that address reads the byte, and every other address reads as before: no
other address leads to the same register. -/
theorem State.busRead_storeReg (s : State) {a : Byte} (takes : (regOf a).writable = true) (b v : Byte) :
    (s.storeReg (regOf a) v).busRead b = if b = a then v else s.busRead b := by
  have same_register : regOf a = regOf b ↔ b = a :=
    ⟨fun h => (regOf_injective h (Reg.ne_of_writable takes rfl)).symm, fun h => h ▸ rfl⟩
  simp only [State.busRead, s.readReg_storeReg, takes, and_true, same_register]

/-- Settles O15: the write stores in a register of its address alone, so only a read of that address sees it. -/
theorem readAfterWrite : Obligations.ReadAfterWrite := by
  intro s a v running rw_address
  have takes : (regOf a).writable = true := regOf_writable rw_address
  refine ⟨s.storeReg (regOf a) v, exec_wr_stores s rfl (Reg.ne_of_writable takes rfl) v running, ?same, ?others⟩
  case same => rw [s.busRead_storeReg takes, if_pos rfl]
  case others => exact fun b other => by rw [s.busRead_storeReg takes, if_neg other]

end Sys2Proof.Machine
end

section
/-! The two formats (R90): a `BUS17` word is its three fields (R91), a `CMD8` word its opcode (R93, R96), and the
decoder and the encoder read and write them whole. -/

namespace Sys2Proof

/-! ## `BUS17` -/

theorem toNat_busFields {rw : Nat} (one_bit : rw < 2) (addr data : Byte) :
    (busFields rw addr data).toNat = rw * 0x10000 + addr.toNat * 0x100 + data.toNat := by
  have := addr.isLt
  have := data.isLt
  rw [busFields, BitVec.toNat_ofNat, Nat.mod_eq_of_lt (by omega)]

/-- Bits 15:8 of a word are its `addr` field. -/
theorem busFields_addr {rw : Nat} (one_bit : rw < 2) (addr data : Byte) :
    (busFields rw addr data).extractLsb' 8 8 = addr := by
  have := addr.isLt
  have := data.isLt
  apply BitVec.eq_of_toNat_eq
  rw [BitVec.extractLsb'_toNat, toNat_busFields one_bit, Nat.shiftRight_eq_div_pow]
  omega

/-- Bits 7:0 of a word are its `data` field. -/
theorem busFields_data {rw : Nat} (one_bit : rw < 2) (addr data : Byte) :
    (busFields rw addr data).extractLsb' 0 8 = data := by
  have := data.isLt
  apply BitVec.eq_of_toNat_eq
  rw [BitVec.extractLsb'_toNat, toNat_busFields one_bit, Nat.shiftRight_zero]
  omega

theorem decodeBus17_write {w : BusWord} (write : w.getLsbD 16 = true) :
    decodeBus17 w = .wr (w.extractLsb' 8 8) (w.extractLsb' 0 8) := if_pos write

theorem decodeBus17_read {w : BusWord} (read : w.getLsbD 16 = false) :
    decodeBus17 w = .rd (w.extractLsb' 8 8) (w.extractLsb' 0 8) := if_neg (Bool.eq_false_iff.mp read)

theorem decodeBus17_busFields_one (addr data : Byte) : decodeBus17 (busFields 1 addr data) = .wr addr data := by
  rw [decodeBus17_write (Laws.BusDirection.busFields_bit16 1 (by decide) addr data),
    busFields_addr (by decide), busFields_data (by decide)]

theorem decodeBus17_busFields_zero (addr data : Byte) : decodeBus17 (busFields 0 addr data) = .rd addr data := by
  rw [decodeBus17_read (Laws.BusDirection.busFields_bit16 0 (by decide) addr data),
    busFields_addr (by decide), busFields_data (by decide)]

/-- The three fields of a word leave out no bit. -/
theorem busFields_of_fields (w : BusWord) :
    busFields (w.getLsbD 16).toNat (w.extractLsb' 8 8) (w.extractLsb' 0 8) = w := by
  have := w.isLt
  apply BitVec.eq_of_toNat_eq
  rw [toNat_busFields (Bool.toNat_lt _), BitVec.extractLsb'_toNat, BitVec.extractLsb'_toNat, BitVec.getLsbD,
    Nat.toNat_testBit, Nat.shiftRight_eq_div_pow, Nat.shiftRight_zero]
  omega

theorem encode_decodeBus17 (w : BusWord) : encode (decodeBus17 w) = .bus17 w := by
  conv_rhs => rw [← busFields_of_fields w]
  cases direction : w.getLsbD 16
  · rw [decodeBus17_read direction]; rfl
  · rw [decodeBus17_write direction]; rfl

theorem wf_decodeBus17 (w : BusWord) : (decodeBus17 w).wf = true := by
  unfold decodeBus17
  split <;> rfl

/-! ## `CMD8` -/

/-- The last line of the opcode map (R93, R96). -/
theorem decodeCmd8_of_unassigned {op : Byte} (unassigned : 0x09 ≤ op.toNat) : decodeCmd8 op = .illegal op := by
  unfold decodeCmd8
  split
  case h_10 => rfl
  all_goals omega

/-- Each of the nine assigned opcodes is the word of its command, which carries no operand. -/
theorem encode_decodeCmd8_of_assigned {op : Byte} (assigned : op.toNat < 0x09) :
    encode (decodeCmd8 op) = .cmd8 op ∧ (decodeCmd8 op).wf = true := by
  revert op; decide

/-! ## The statements -/

/-- Settles O4: the words of `RD` and `WR` by their fields, those of the commands by the opcode map, in which
well-formedness keeps an illegal command off the assigned opcodes. -/
theorem decodeOfEncode : Obligations.DecodeOfEncode := by
  intro i wf
  cases i with
  | rd addr data => exact decodeBus17_busFields_zero addr data
  | wr addr data => exact decodeBus17_busFields_one addr data
  | illegal op => exact decodeCmd8_of_unassigned (of_decide_eq_true wf)
  | _ => rfl

/-- Settles O3: the word with these fields is the one `busFields` builds. -/
theorem busFieldsAreReadWhole : Obligations.BusFieldsAreReadWhole := by
  intro a d
  have write := decodeBus17_busFields_one a d
  have read := decodeBus17_busFields_zero a d
  rw [busFields, Nat.mul_comm a.toNat] at write read
  rw [Nat.zero_mul, Nat.zero_add] at read
  exact ⟨write, read⟩

/-- Settles O5: a bus word is its three fields, an opcode stands in the map or is its own illegal command. -/
theorem encodeOfDecode : Obligations.EncodeOfDecode := by
  intro c
  cases c with
  | bus17 w =>
    rw [decode]
    exact ⟨encode_decodeBus17 w, wf_decodeBus17 w⟩
  | cmd8 op =>
    rw [decode]
    rcases Nat.lt_or_ge op.toNat 0x09 with assigned | unassigned
    · exact encode_decodeCmd8_of_assigned assigned
    · rw [decodeCmd8_of_unassigned unassigned]
      exact ⟨rfl, decide_eq_true unassigned⟩

/-- Settles O1: the four bus words are read by their fields, the opcodes by the map. -/
theorem specWordsDecode : Obligations.SpecWordsDecode :=
  ⟨decodeBus17_busFields_one 0x41#8 0x40#8, decodeBus17_busFields_zero 0x03#8 0x00#8,
    decodeBus17_busFields_one 0x5F#8 0xA5#8, decodeBus17_busFields_one 0x10#8 0x02#8, rfl, rfl, rfl, rfl, rfl,
    decodeCmd8_of_unassigned (op := 0x09#8) (by decide), decodeCmd8_of_unassigned (op := 0xFF#8) (by decide)⟩

/-- Settles O2: the nine assigned opcodes, the rest of the range, and the bus word as its three fields. -/
theorem opcodeMapIsWhole : Obligations.OpcodeMapIsWhole := by
  refine ⟨rfl, rfl, rfl, rfl, rfl, rfl, rfl, rfl, rfl, ?unassigned, ?bus_word⟩
  case unassigned => exact fun op => decodeCmd8_of_unassigned
  case bus_word => exact fun op => toNat_busFields (by decide) 0x00#8 op

end Sys2Proof
end

section
/-! The illegal command (R96). -/

namespace Sys2Proof.Machine

/-- Settles O21: the command raises the failure on a block that is not halted, and the bus write runs the command its
opcode decodes to. -/
theorem unassignedOpcodeIsIllegal : Obligations.UnassignedOpcodeIsIllegal := by
  intro s op running unassigned
  have command : exec (.illegal op) s = .next { s with result := .illegalCommand } := by
    rw [exec_eq_next, effectOf, s.hostWrite_of_not_halted _ running]
    rfl
  have carried : exec (.wr 0x00#8 op) s = exec (.illegal op) s := by
    rw [writeToCmdExecutesItsCommand, decodeCmd8_of_unassigned unassigned]
  exact ⟨command, carried.trans command⟩

end Sys2Proof.Machine
end

section
/-! The checksum (R110, R113, R114): a byte enters the register by XOR, and the loop over its bits is linear and loses
none of them. What holds of one byte holds of a string, byte by byte from any register. -/

namespace Sys2Proof.Machine

/-! ## One byte -/

/-- The loop runs on the XOR of register and byte, as it does over that one byte from the initial register 0x00. -/
theorem crcByte_eq_crc8 (c x : Byte) : crcByte c x = crc8 [c ^^^ x] := by
  rw [crc8, List.foldl_cons, List.foldl_nil, crcByte, crcByte, BitVec.zero_xor]

theorem crcByte_self (c : Byte) : crcByte c c = 0x00#8 := by
  rw [crcByte_eq_crc8, BitVec.xor_self]
  exact crcByte_zero_zero

/-- The entries of the table, one by one (R113). -/
theorem crcTable_getD (v : Byte) : crcTable.getD v.toNat 0x00#8 = crc8 [v] := by
  revert v; decide

/-- A set bit 0 comes back as the top bit of 0x8C, and the shift keeps the other bits, so only 0x00 shifts to 0x00. -/
theorem eq_zero_of_crcShift_eq_zero (c : Byte) : crcShift c = 0x00#8 → c = 0x00#8 := by
  revert c; decide

/-- No bit is lost: by linearity, two bytes with one shift differ by 0x00. -/
theorem crcShift_injective : Function.Injective crcShift := by
  intro a b same
  have difference : crcShift (a ^^^ b) = 0x00#8 := by rw [crcShift_xor, same, BitVec.xor_self]
  exact BitVec.xor_eq_zero_iff.mp (eq_zero_of_crcShift_eq_zero _ difference)

/-- Two bytes leave equal registers only when the loops over them start alike. -/
theorem crcByte_eq_iff {a b x y : Byte} : crcByte a x = crcByte b y ↔ a ^^^ x = b ^^^ y :=
  (crcShift_injective.iterate 8).eq_iff

/-! ## A string -/

/-- The checksum goes on over a second string from where the first one left it. -/
theorem crc8_append (a b : List Byte) : crc8 (a ++ b) = b.foldl crcByte (crc8 a) := List.foldl_append

theorem foldl_crcByte_xor {a b : List Byte} (h : a.length = b.length) (c d : Byte) :
    (List.zipWith (· ^^^ ·) a b).foldl crcByte (c ^^^ d) = a.foldl crcByte c ^^^ b.foldl crcByte d := by
  induction a generalizing b c d with
  | nil => cases b with
    | nil => rfl
    | cons y b => cases h
  | cons x a ih => cases b with
    | nil => cases h
    | cons y b =>
      rw [List.zipWith_cons_cons, List.foldl_cons, crcByte_xor]
      exact ih (Nat.succ.inj h) _ _

/-- A string that follows keeps two registers apart. -/
theorem foldl_crcByte_injective (m : List Byte) : Function.Injective fun c => m.foldl crcByte c := by
  induction m with
  | nil => exact Function.injective_id
  | cons x m ih => exact fun c d same => (BitVec.xor_left_inj x).mp (crcByte_eq_iff.mp (ih same))

theorem crc8_replicate_zero (k : Nat) : crc8 (List.replicate k 0x00#8) = 0x00#8 := by
  induction k with
  | zero => rfl
  | succ k ih => rw [List.replicate_succ', crc8_append_singleton, ih, crcByte_zero_zero]

/-! ## The statements -/

/-- Settles O36: whatever the register, the table answers for its XOR with the byte what the loop computes. -/
theorem tableComputesCrc8 : Obligations.TableComputesCrc8 := by
  have one_byte : (fun c x : Byte => crcTable.getD (c ^^^ x).toNat 0x00#8) = crcByte := by
    funext c x
    rw [crcTable_getD, crcByte_eq_crc8]
  intro m
  rw [crc8ByTable, one_byte, crc8]

/-- Settles O37: linear from any pair of registers, and the initial one is the XOR of itself with itself. -/
theorem crc8IsLinear : Obligations.Crc8IsLinear :=
  fun _ _ h => foldl_crcByte_xor h 0x00#8 0x00#8

/-- Settles O38: the register XORed with itself is 0x00, and zero bytes leave the initial register as it is. -/
theorem crc8ResidueAndLeadingZeros : Obligations.Crc8ResidueAndLeadingZeros := by
  refine fun m => ⟨?residue, fun k => ?leading_zeros⟩
  case residue => rw [crc8_append_singleton, crcByte_self]
  case leading_zeros => rw [crc8_append, crc8_replicate_zero, crc8]

/-- Settles O39: the unequal bytes leave unequal registers, which the rest of the string keeps apart. -/
theorem crc8DetectsOneByteChanges : Obligations.Crc8DetectsOneByteChanges := by
  intro pre suf x y differ same
  rw [crc8_append, crc8_append] at same
  have registers : crcByte (crc8 pre) x = crcByte (crc8 pre) y := foldl_crcByte_injective suf same
  exact differ ((BitVec.xor_right_inj _).mp (crcByte_eq_iff.mp registers))

end Sys2Proof.Machine
end

section
/-! The commands `NOP` (R111) and `CRC8` (R112). -/

namespace Sys2Proof.Machine

/-- Settles O20: behind the halted lock, `NOP` writes `RESULT` alone. -/
theorem nopClearsResult : Obligations.NopClearsResult := by
  refine ⟨rfl, fun s => ⟨fun running => ?running, fun halted => ?halted⟩⟩
  case running => rw [exec_eq_next, effectOf, s.hostWrite_of_not_halted _ running]; rfl
  case halted => rw [exec_eq_next, effectOf, s.hostWrite_of_halted _ halted]

/-- Settles O22, by the two cases of the length. -/
theorem crc8CommandWritesTheChecksum : Obligations.Crc8CommandWritesTheChecksum := by
  intro s running
  rw [exec_eq_next, effectOf, s.hostWrite_of_not_halted _ running]
  refine ⟨fun fits => ?fits, fun too_long => ?too_long⟩
  case fits => rw [s.doCrc8_of_le fits]; rfl
  case too_long => rw [s.doCrc8_of_gt too_long]; rfl

end Sys2Proof.Machine
end

section
/-! The cipher: its mask (R122), and the command `CIPHER` (R123, R124). -/

namespace Sys2Proof.Machine

/-! ## The mask -/

/-- The mask folds over the indices that fall on byte `j`, in their order. -/
theorem cipherMask_eq_foldl_filter (key : List Byte) (size j : Nat) : cipherMask key size j =
    ((List.range (max key.length size)).filter (· % size = j)).foldl (fun x i => x ^^^ keyAt key i) 0x00#8 := by
  simp only [cipherMask, List.foldl_filter, decide_eq_true_eq]

/-- What a filter leaves of a range is the ascending list of the same numbers. -/
theorem filter_range_eq {n : Nat} {p : Nat → Bool} {l : List Nat} (ascending : l.Pairwise (· < ·))
    (same_members : ∀ i, i ∈ l ↔ i < n ∧ p i = true) : (List.range n).filter p = l :=
  (List.pairwise_lt_range.filter p).eq_of_mem_iff ascending fun i => by
    rw [List.mem_filter, List.mem_range, same_members]

/-- A buffer as long as the key or longer is passed over once, so each byte is met once. -/
theorem filter_range_mod_self {size j : Nat} (h : j < size) :
    (List.range size).filter (· % size = j) = [j] := by
  refine filter_range_eq (List.pairwise_singleton _ j) fun i => ?_
  rw [List.mem_singleton, decide_eq_true_eq]
  constructor
  · rintro rfl
    exact ⟨h, Nat.mod_eq_of_lt h⟩
  · rintro ⟨in_range, falls_on_j⟩
    rwa [Nat.mod_eq_of_lt in_range] at falls_on_j

/-- The indices below `n` that fall on byte `j` are those at distance `size` from each other, from `j` on. -/
theorem filter_range_mod {n size j : Nat} (h : j < size) :
    (List.range n).filter (· % size = j) = ((List.range n).filter (j + · * size < n)).map (j + · * size) := by
  have positive : 0 < size := Nat.zero_lt_of_lt h
  refine filter_range_eq ?ascending fun i => ?same_members
  case ascending =>
    refine (List.pairwise_lt_range.filter _).map _ fun a b a_lt_b => ?_
    exact Nat.add_lt_add_left (Nat.mul_lt_mul_of_pos_right a_lt_b positive) j
  case same_members =>
    simp only [List.mem_map, List.mem_filter, List.mem_range, decide_eq_true_eq]
    constructor
    · rintro ⟨m, ⟨_, in_range⟩, rfl⟩
      exact ⟨in_range, by rw [Nat.add_mul_mod_self_right, Nat.mod_eq_of_lt h]⟩
    · rintro ⟨in_range, falls_on_j⟩
      have recombined : j + i / size * size = i := by rw [← falls_on_j, Nat.mul_comm, Nat.mod_add_div]
      exact ⟨i / size, ⟨(Nat.div_le_self i size).trans_lt in_range, recombined.trans_lt in_range⟩, recombined⟩

/-- Within the key, `KEY[i mod K]` is `KEY[i]`. -/
theorem keyAt_of_lt {key : List Byte} {i : Nat} (h : i < key.length) : keyAt key i = key.getD i 0x00#8 := by
  rw [keyAt, Nat.mod_eq_of_lt h]

/-- Settles O40: the indices that fall on byte `j` are `j` alone when `S >= K`, and every `S`-th of the key when
`S < K`. -/
theorem cipherMaskByCases : Obligations.CipherMaskByCases := by
  intro key size j _ _ hj
  rw [cipherMask_eq_foldl_filter]
  refine ⟨fun key_fits => ?repeated, fun key_longer => ?folded⟩
  case repeated =>
    rw [Nat.max_eq_right key_fits, filter_range_mod_self hj, List.foldl_cons, List.foldl_nil, BitVec.zero_xor, keyAt]
  case folded =>
    rw [Nat.max_eq_left key_longer.le, filter_range_mod hj, List.foldl_map, List.foldl_filter]
    refine List.foldl_ext _ _ _ fun x m _ => ?_
    simp only [decide_eq_true_eq]
    split
    · next in_key => rw [keyAt_of_lt in_key]
    · rfl

/-! ## The command -/

/-- `CIPHER` with a length of 1 to 32 replaces the buffer by its cipher. -/
theorem exec_cipher_of_length (s : State) (running : s.halted = false) (h1 : 1 ≤ s.len.toNat)
    (h2 : s.len.toNat ≤ 32) :
    exec .cipher s = .next { s with buf := cipher s.params.key s.len.toNat s.buf, result := .ok } := by
  rw [exec_eq_next, effectOf, s.hostWrite_of_not_halted _ running, s.doCipher_of_length h1 h2]
  rfl

/-- Settles O23: the cipher byte by byte, and the length error. -/
theorem cipherXorsTheMask : Obligations.CipherXorsTheMask := by
  refine fun s running => ⟨fun h1 h2 => ?ciphers, fun bad => ?bad_length⟩
  case ciphers =>
    exact ⟨_, exec_cipher_of_length s running h1 h2, fun j h => getElem_cipher s.params.key h1 s.buf h, rfl⟩
  case bad_length =>
    rw [exec_eq_next, effectOf, s.hostWrite_of_not_halted _ running, s.doCipher_of_bad_length bad]
    rfl

/-- Settles O41: the first command leaves key, length and lock as they are, so the second applies the same cipher,
which is its own inverse. -/
theorem cipherTwiceRestores : Obligations.CipherTwiceRestores := by
  intro s running h1 h2
  refine ⟨_, exec_cipher_of_length s running h1 h2, ?second⟩
  rw [exec_cipher_of_length, cipher_cipher s.params.key h1]
  exacts [running, h1, h2]

end Sys2Proof.Machine
end

section
/-! The commands `ENCODE` (R135 to R137) and `DECODE` (R142 to R144), and the journey of a frame from the one to the
other (R145, R146). Between the two stands the plain frame: the payload with its trailer, not ciphered. -/

namespace Sys2Proof.Machine

variable (s : State)

/-! ## The plain frame -/

/-- The buffer with the trailer behind the payload, as `ENCODE` ciphers it (R136). -/
def State.plainFrame : Vector Byte 32 := bufSet s.buf s.len.toNat (crc8 (bufTake s.buf s.len.toNat))

/-- The buffer as `DECODE` deciphers it (R142). -/
def State.deciphered : Vector Byte 32 := cipher s.params.key s.len.toNat s.buf

theorem State.getElem_plainFrame {j : Nat} (h : j < 32) :
    s.plainFrame[j] = if s.len.toNat = j then crc8 (bufTake s.buf s.len.toNat) else s.buf[j] :=
  getElem_bufSet _ _ _ h

theorem State.getElem_plainFrame_of_lt {j : Nat} (h : j < 32) (payload : j < s.len.toNat) :
    s.plainFrame[j] = s.buf[j] := by
  rw [s.getElem_plainFrame h, if_neg payload.ne']

theorem State.getElem_plainFrame_trailer (h : s.len.toNat < 32) :
    s.plainFrame[s.len.toNat] = crc8 (bufTake s.buf s.len.toNat) := by
  rw [s.getElem_plainFrame h, if_pos rfl]

theorem State.bufTake_plainFrame (h : s.len.toNat ≤ 32) :
    bufTake s.plainFrame s.len.toNat = bufTake s.buf s.len.toNat :=
  bufTake_congr h fun _ hj payload => s.getElem_plainFrame_of_lt hj payload

/-! ## The commands -/

theorem exec_encode_of_le (running : s.halted = false) (h : s.len.toNat ≤ 31) :
    exec .encode s = .next { s with
      buf := cipher s.params.key (s.len.toNat + 1) s.plainFrame, crc := crc8 (bufTake s.buf s.len.toNat),
      len := BitVec.ofNat 8 (s.len.toNat + 1), result := .ok } := by
  have frame_length : BitVec.ofNat 8 (s.len.toNat + 1) = s.len + 1#8 := by
    rw [BitVec.ofNat_add, BitVec.ofNat_toNat, BitVec.setWidth_eq]
  rw [exec_eq_next, effectOf, s.hostWrite_of_not_halted _ running, s.doEncode_of_le h, frame_length]
  rfl

theorem exec_encode_of_ge (running : s.halted = false) (h : 32 ≤ s.len.toNat) :
    exec .encode s = .next { s with result := .lengthError } := by
  rw [exec_eq_next, effectOf, s.hostWrite_of_not_halted _ running, s.doEncode_of_ge h]
  rfl

theorem exec_decode_of_bad_length (running : s.halted = false) (bad : s.len.toNat = 0 ∨ 32 < s.len.toNat) :
    exec .decode s = .next { s with result := .lengthError } := by
  rw [exec_eq_next, effectOf, s.hostWrite_of_not_halted _ running, s.doDecode_of_bad_length bad]
  rfl

variable {n : Nat} (running : s.halted = false) (length : s.len.toNat = n + 1) (fits : n < 32)
include running length

/-- A frame of `n + 1` bytes whose deciphered trailer is the checksum of the payload leaves the payload. -/
theorem exec_decode_of_match (passes : crc8 (bufTake s.deciphered n) = s.deciphered[n]) :
    exec .decode s = .next { s with
      buf := s.deciphered, crc := crc8 (bufTake s.deciphered n), len := BitVec.ofNat 8 n, result := .ok } := by
  have index : s.len.toNat - 1 = n := by omega
  have payload_length : BitVec.ofNat 8 n = s.len - 1#8 := by bv_omega
  rw [← bufAt_eq s.deciphered fits] at passes
  subst index
  rw [exec_eq_next, effectOf, s.hostWrite_of_not_halted _ running,
    s.doDecode_of_match (by omega) (by omega) (b := s.deciphered) rfl passes, payload_length]
  rfl

/-- A frame of `n + 1` bytes whose deciphered trailer is another byte is discarded. -/
theorem exec_decode_of_mismatch (fails : crc8 (bufTake s.deciphered n) ≠ s.deciphered[n]) :
    exec .decode s = .next { s with
      buf := s.deciphered, crc := crc8 (bufTake s.deciphered n), len := 0x00#8, result := .integrityFailure } := by
  have index : s.len.toNat - 1 = n := by omega
  rw [← bufAt_eq s.deciphered fits] at fails
  subst index
  rw [exec_eq_next, effectOf, s.hostWrite_of_not_halted _ running,
    s.doDecode_of_mismatch (by omega) (by omega) (b := s.deciphered) rfl fails]
  rfl

end Sys2Proof.Machine
end

section
/-! What `ENCODE` and `DECODE` do to one block (R135 to R137, R142 to R144). -/

namespace Sys2Proof.Machine

/-- Settles O24: the cipher of the plain frame, byte by byte. -/
theorem encodeBuildsTheFrame : Obligations.EncodeBuildsTheFrame := by
  rintro s n p running rfl fits rfl
  refine ⟨_, exec_encode_of_le s running fits, fun j h => ?_, rfl⟩
  rw [getElem_cipher _ (Nat.le_add_left 1 _) _ h]
  rcases lt_trichotomy j s.len.toNat with payload | rfl | beyond
  · rw [if_pos (by omega), if_pos payload, s.getElem_plainFrame_of_lt h payload]
  · rw [if_pos (by omega), if_neg (by omega), if_pos rfl, s.getElem_plainFrame_trailer h, bufTake]
  · rw [if_neg (by omega), if_neg (by omega), if_neg (by omega), s.getElem_plainFrame h, if_neg (by omega)]

/-- Settles O25, by the two cases of the length; a frame built has the result `OK`. -/
theorem encodeLengthErrorExactly : Obligations.EncodeLengthErrorExactly := by
  intro s t running done
  rcases Nat.lt_or_ge s.len.toNat 32 with fits | too_long
  · rw [exec_encode_of_le s running (by omega)] at done
    cases done
    exact ⟨iff_of_false nofun (by omega), fun _ => by omega⟩
  · rw [exec_encode_of_ge s running too_long] at done
    cases done
    exact ⟨iff_of_true rfl too_long, fun _ => rfl⟩

/-- The trailer compared as an entry of the buffer that may be out of range. -/
theorem some_eq_getElem?_iff {b : Vector Byte 32} {c : Byte} {i : Nat} (h : i < 32) : some c = b[i]? ↔ c = b[i] := by
  rw [Vector.getElem?_eq_getElem h, Option.some_inj]

/-- Settles O26, by the two outcomes of the comparison. -/
theorem decodeDeciphersAndChecks : Obligations.DecodeDeciphersAndChecks := by
  intro s l running length h1 h2
  obtain ⟨n, rfl⟩ := Nat.exists_eq_add_of_le' h1
  have bytes (j : Nat) (h : j < 32) :
      s.deciphered[j] = if j < n + 1 then s.buf[j] ^^^ cipherMask s.params.key (n + 1) j else s.buf[j] := by
    rw [State.deciphered, length, getElem_cipher _ h1 _ h]
  have compared := some_eq_getElem?_iff (b := s.deciphered) (c := crc8 (bufTake s.deciphered n)) h2
  by_cases passes : crc8 (bufTake s.deciphered n) = s.deciphered[n]
  · exact ⟨_, exec_decode_of_match s running length h2 passes, bytes, rfl, fun _ => rfl,
      fun fails => absurd (compared.mpr passes) fails⟩
  · exact ⟨_, exec_decode_of_mismatch s running length h2 passes, bytes, rfl,
      fun agrees => absurd (compared.mp agrees) passes, fun _ => rfl⟩

/-- `DECODE` of a frame of 1 to 32 bytes answers `OK` or `INTEGRITY_FAILURE`, by the comparison of O26. -/
theorem decode_result {s t : State} {l : Nat} (running : s.halted = false) (length : s.len.toNat = l)
    (h1 : 1 ≤ l) (h2 : l ≤ 32) (done : exec .decode s = .next t) :
    some t.crc = t.buf[l - 1]? ∧ t.result = .ok ∨
      some t.crc ≠ t.buf[l - 1]? ∧ t.result = .integrityFailure := by
  obtain ⟨u, done', -, -, ok, failed⟩ := decodeDeciphersAndChecks s l running length h1 h2
  cases done.symm.trans done'
  by_cases passes : some t.crc = t.buf[l - 1]?
  · exact .inl ⟨passes, congrArg State.result (ok passes)⟩
  · exact .inr ⟨passes, congrArg State.result (failed passes)⟩

/-- Settles O27: the length error by `exec_decode_of_bad_length`, and no other frame's result by `decode_result`; of
one byte the payload is empty, and its checksum is 0x00. -/
theorem decodeLengthErrorExactly : Obligations.DecodeLengthErrorExactly := by
  intro s t running done
  have kept (bad : s.len.toNat = 0 ∨ 32 < s.len.toNat) : t = { s with result := .lengthError } := by
    cases done.symm.trans (exec_decode_of_bad_length s running bad)
    rfl
  refine ⟨⟨fun raised => ?only_bad, fun bad => by rw [kept bad]⟩, kept, fun one => ?one_byte⟩
  case only_bad =>
    by_contra good
    rcases decode_result running rfl (by omega) (by omega) done with ⟨-, ok⟩ | ⟨-, failed⟩
    · cases raised.symm.trans ok
    · cases raised.symm.trans failed
  case one_byte =>
    obtain ⟨u, done', bytes, empty_payload, ok, failed⟩ :=
      decodeDeciphersAndChecks s 1 running one (by decide) (by decide)
    cases done.symm.trans done'
    have crc : t.crc = 0x00#8 := empty_payload
    have compared : some t.crc = t.buf[1 - 1]? ↔ t.buf[0] = 0x00#8 := by
      rw [crc, some_eq_getElem?_iff (by decide), eq_comm]
    rcases decode_result running one (by decide) (by decide) done with ⟨passes, result⟩ | ⟨fails, result⟩
    · exact ⟨crc, congrArg State.len (ok passes), bytes 0 (by decide), iff_of_true result (compared.mp passes)⟩
    · exact ⟨crc, congrArg State.len (failed fails), bytes 0 (by decide),
        iff_of_false (by rw [result]; nofun) (mt compared.mpr fails)⟩

/-- Settles O28: an integrity failure is no length error, so the frame failed the comparison of O26; the empty payload
has the length of no message. -/
theorem discardedFrameReachesNoMessageRegister : Obligations.DiscardedFrameReachesNoMessageRegister := by
  intro s t l running length done discarded
  have in_range : ¬ (s.len.toNat = 0 ∨ 32 < s.len.toNat) := by
    intro bad
    cases done.symm.trans (exec_decode_of_bad_length s running bad)
    cases discarded
  have h1 : 1 ≤ l := by omega
  have h2 : l ≤ 32 := by omega
  have fails : some t.crc ≠ t.buf[l - 1]? := by
    rcases decode_result running length h1 h2 done with ⟨-, ok⟩ | ⟨fails, -⟩
    · cases discarded.symm.trans ok
    · exact fails
  obtain ⟨u, done', bytes, crc, -, failed⟩ := decodeDeciphersAndChecks s l running length h1 h2
  cases done.symm.trans done'
  have state := failed fails
  have empty : t.len = 0x00#8 := congrArg State.len state
  have still_running : t.halted = false := (congrArg State.halted state).trans running
  refine ⟨bytes, crc, fails, empty, by rw [state], by rw [state], by rw [state], ?decmsg⟩
  have no_length : t.len.toNat = 0 := by rw [empty]; rfl
  rw [exec_eq_next, effectOf, t.hostWrite_of_not_halted _ still_running,
    t.doDecmsg_of_no_match (by omega) (by omega)]
  rfl

end Sys2Proof.Machine
end

section
/-! A frame on its way from the block that built it to a block with the same key (R145, R146). The mask that ciphers
byte `j` deciphers it, so byte `j` arrives as it was exactly when it was not changed on the way. -/

namespace Sys2Proof.Machine

/-! ## The cipher and the checksum of a frame -/

/-- Byte `j` of one buffer's cipher is byte `j` of another's exactly when the buffers hold the same byte there. -/
theorem getElem_cipher_eq_iff (key : List Byte) {size : Nat} (hs : 1 ≤ size) (b d : Vector Byte 32) {j : Nat}
    (h : j < 32) : (cipher key size b)[j] = (cipher key size d)[j] ↔ b[j] = d[j] := by
  rw [getElem_cipher key hs b h, getElem_cipher key hs d h]
  split
  · exact BitVec.xor_left_inj _
  · rfl

theorem bufTake_succ (b : Vector Byte 32) {n : Nat} (h : n < 32) : bufTake b (n + 1) = bufTake b n ++ [b[n]] := by
  rw [bufTake, bufTake, List.take_succ_eq_append_getElem (by simpa using h), Vector.getElem_toList]

/-- The comparison of `DECODE` in terms of the whole frame: payload and trailer together have checksum 0x00 (R114 c). -/
theorem crc8_eq_trailer_iff (b : Vector Byte 32) {n : Nat} (h : n < 32) :
    crc8 (bufTake b n) = b[n] ↔ crc8 (bufTake b (n + 1)) = 0x00#8 := by
  rw [bufTake_succ b h, crc8_append_singleton, ← crcByte_self (crc8 (bufTake b n)), crcByte_eq_iff,
    BitVec.xor_right_inj, eq_comm]

/-- A byte of a string replaced by another changes the checksum (R114 e). -/
theorem crc8_set_ne {m : List Byte} {k : Nat} (h : k < m.length) {x : Byte} (other : x ≠ m[k]) :
    crc8 (m.set k x) ≠ crc8 m := by
  have parts (y : Byte) : m.set k y = m.take k ++ y :: m.drop (k + 1) := by
    rw [List.set_eq_take_append_cons_drop, if_pos h]
  intro same
  refine crc8DetectsOneByteChanges (m.take k) (m.drop (k + 1)) x m[k] other ?_
  rw [← parts, ← parts, List.set_getElem_self, same]

/-- Two buffers whose first `n` bytes differ in byte `k` alone have different checksums there. -/
theorem crc8_bufTake_ne {b d : Vector Byte 32} {n k : Nat} (hn : n ≤ 32) (hk : k < n)
    (differ : ∀ (j : Nat) (h : j < 32), j < n → (b[j] = d[j] ↔ j ≠ k)) : crc8 (bufTake b n) ≠ crc8 (bufTake d n) := by
  have replaced : bufTake b n = (bufTake d n).set k b[k] := by
    apply List.ext_getElem
    · rw [List.length_set, length_bufTake b hn, length_bufTake d hn]
    · intro j hj _
      rw [length_bufTake b hn] at hj
      rw [List.getElem_set, getElem_bufTake b hn hj, getElem_bufTake d hn hj]
      split
      · next same => subst same; rfl
      · next other => exact (differ j (by omega) hj).mpr (Ne.symm other)
  rw [replaced]
  refine crc8_set_ne (by rwa [length_bufTake d hn]) ?_
  rw [getElem_bufTake d hn hk]
  exact fun same => (differ k (by omega) hk).mp same rfl

/-! ## The journey -/

section
variable {s a r : State} (running : s.halted = false) (fits : s.len.toNat ≤ 31) (built : exec .encode s = .next a)
  (same_key : r.params.key = s.params.key) (same_len : r.len = a.len)
include running fits built same_len

theorem received_length : r.len.toNat = s.len.toNat + 1 := by
  cases built.symm.trans (exec_encode_of_le s running fits)
  rw [same_len]
  exact Nat.mod_eq_of_lt (by omega)

include same_key

/-- A byte is deciphered to the plain frame's exactly when it was not changed on the way. -/
theorem getElem_deciphered_eq_iff {j : Nat} (h : j < 32) :
    r.deciphered[j] = s.plainFrame[j] ↔ r.buf[j] = a.buf[j] := by
  have sent : a.buf = cipher s.params.key (s.len.toNat + 1) s.plainFrame := by
    cases built.symm.trans (exec_encode_of_le s running fits)
    rfl
  have positive : 1 ≤ s.len.toNat + 1 := Nat.le_add_left 1 _
  rw [State.deciphered, same_key, received_length running fits built same_len, sent,
    ← getElem_cipher_eq_iff s.params.key positive r.buf _ h, cipher_cipher _ positive]

end

/-- Settles O42: unchanged, the frame is deciphered to the plain frame, whose trailer is the payload's checksum. -/
theorem frameRoundTrip : Obligations.FrameRoundTrip := by
  rintro s a r n running running' rfl fits built same_key same_len unchanged
  have length := received_length running fits built same_len
  have plain (j : Nat) (h : j < 32) (hj : j ≤ s.len.toNat) : r.deciphered[j] = s.plainFrame[j] :=
    (getElem_deciphered_eq_iff running fits built same_key same_len h).mpr (unchanged j h hj)
  have checksum : crc8 (bufTake r.deciphered s.len.toNat) = crc8 (bufTake s.buf s.len.toNat) := by
    rw [← s.bufTake_plainFrame (by omega), bufTake_congr (by omega) fun j h hj => plain j h hj.le]
  have trailer : r.deciphered[s.len.toNat] = crc8 (bufTake s.buf s.len.toNat) := by
    rw [plain _ (by omega) le_rfl, s.getElem_plainFrame_trailer]
  refine ⟨_, exec_decode_of_match r running' length (by omega) (checksum.trans trailer.symm), rfl,
    BitVec.ofNat_toNat .., checksum, ?trailer, fun j h hj => ?payload⟩
  case trailer => exact ((some_eq_getElem?_iff (by omega)).mpr trailer.symm).symm
  case payload => exact (plain j h hj.le).trans (s.getElem_plainFrame_of_lt h hj)

/-- Settles O43: the plain frame has checksum 0x00, so a frame deciphered to one that differs from it in byte `k` alone
has another one and is discarded. -/
theorem oneByteCorruptionIsDetected : Obligations.OneByteCorruptionIsDetected := by
  rintro s a r n k running running' rfl fits hk built same_key same_len changed
  have length := received_length running fits built same_len
  have intact : crc8 (bufTake s.plainFrame (s.len.toNat + 1)) = 0x00#8 := by
    rw [← crc8_eq_trailer_iff _ (by omega), s.bufTake_plainFrame (by omega), s.getElem_plainFrame_trailer]
  have differ (j : Nat) (h : j < 32) (hj : j < s.len.toNat + 1) :
      r.deciphered[j] = s.plainFrame[j] ↔ j ≠ k :=
    (getElem_deciphered_eq_iff running fits built same_key same_len h).trans (changed j h (Nat.le_of_lt_succ hj))
  have fails : crc8 (bufTake r.deciphered s.len.toNat) ≠ r.deciphered[s.len.toNat]'(by omega) := by
    rw [Ne, crc8_eq_trailer_iff, ← intact]
    exact crc8_bufTake_ne (by omega) (Nat.lt_succ_of_le hk) differ
  exact ⟨_, exec_decode_of_mismatch r running' length (by omega) fails, rfl, rfl⟩

end Sys2Proof.Machine
end

section
/-! The commands `ENCMSG` (R161, R162) and `DECMSG` (R165 to R167) on one block. -/

namespace Sys2Proof.Machine

variable (s : State)

/-! ## ENCMSG -/

/-- The buffer with a `SetPwm` payload: the discriminant, then the value (R156, R161). -/
theorem getElem_putSetPwm (b : Vector Byte 32) (v : Byte) {j : Nat} (h : j < 32) :
    (bufSet (bufSet b 0 0x01#8) 1 v)[j] = if j = 0 then 0x01#8 else if j = 1 then v else b[j] := by
  rw [getElem_bufSet _ _ _ h, getElem_bufSet _ _ _ h]
  rcases j with _ | _ | j
  · rfl
  · rfl
  · simp

theorem exec_encmsg_of_setPwm (running : s.halted = false) (h : s.msgId = 0x01#8) :
    exec .encmsg s = .next { s with
      buf := bufSet (bufSet s.buf 0 0x01#8) 1 s.pwmValue, len := 2#8, result := .ok } := by
  rw [exec_eq_next, effectOf, s.hostWrite_of_not_halted _ running, s.doEncmsg_of_setPwm h]
  rfl

theorem exec_encmsg_of_replyStatus (running : s.halted = false) (h : s.msgId = 0x02#8) :
    exec .encmsg s = .next { s with
      buf := putReply s.params s.rs s.buf, len := BitVec.ofNat 8 (1 + s.params.rsSize), result := .ok } := by
  rw [exec_eq_next, effectOf, s.hostWrite_of_not_halted _ running, s.doEncmsg_of_replyStatus h,
    State.setResult, State.setLen, State.setBuf]

theorem exec_encmsg_of_unknown (running : s.halted = false) (h1 : s.msgId ≠ 0x01#8) (h2 : s.msgId ≠ 0x02#8) :
    exec .encmsg s = .next { s with result := .protocolFailure } := by
  rw [exec_eq_next, effectOf, s.hostWrite_of_not_halted _ running, s.doEncmsg_of_unknown h1 h2]
  rfl

/-- Settles O29, by the discriminant. -/
theorem encmsgWritesTheMessage : Obligations.EncmsgWritesTheMessage := by
  refine fun s running => ⟨fun setPwm => ?setPwm, fun reply => ?replyStatus, exec_encmsg_of_unknown s running⟩
  case setPwm =>
    exact ⟨_, exec_encmsg_of_setPwm s running setPwm, fun j h => getElem_putSetPwm s.buf s.pwmValue h, rfl⟩
  case replyStatus =>
    exact ⟨_, exec_encmsg_of_replyStatus s running reply, fun j h => getElem_putReply s.params s.rs s.buf h, rfl⟩

/-! ## DECMSG -/

theorem exec_decmsg_of_setPwm (running : s.halted = false) (h : s.buf[0] = 0x01#8) (hl : s.len = 2#8) :
    exec .decmsg s = .next { s with msgId := 0x01#8, pwmValue := s.buf[1], result := .ok } := by
  rw [exec_eq_next, effectOf, s.hostWrite_of_not_halted _ running, s.doDecmsg_of_setPwm h (by rw [hl]; rfl)]
  rfl

theorem exec_decmsg_of_replyStatus (running : s.halted = false) (h : s.buf[0] = 0x02#8)
    (hl : s.len.toNat = 1 + s.params.rsSize) :
    exec .decmsg s = .next { s with msgId := 0x02#8, rs := takeReply s.params s.buf s.rs, result := .ok } := by
  rw [exec_eq_next, effectOf, s.hostWrite_of_not_halted _ running, s.doDecmsg_of_replyStatus h hl]
  rfl

theorem exec_decmsg_of_no_match (running : s.halted = false) (h1 : ¬ (s.buf[0] = 0x01#8 ∧ s.len = 2#8))
    (h2 : ¬ (s.buf[0] = 0x02#8 ∧ s.len.toNat = 1 + s.params.rsSize)) :
    exec .decmsg s = .next { s with result := .protocolFailure } := by
  have no_setPwm : ¬ (s.buf[0] = 0x01#8 ∧ s.len.toNat = 2) := fun ⟨h, hl⟩ => h1 ⟨h, BitVec.eq_of_toNat_eq hl⟩
  rw [exec_eq_next, effectOf, s.hostWrite_of_not_halted _ running, s.doDecmsg_of_no_match no_setPwm h2]
  rfl

/-- What `DECMSG` can do: take a `SetPwm`, take a `ReplyStatus`, or raise `PROTOCOL_FAILURE` (R165). -/
theorem exec_decmsg_cases {s t : State} (running : s.halted = false) (done : exec .decmsg s = .next t) :
    (s.buf[0] = 0x01#8 ∧ s.len = 2#8 ∧ t = { s with msgId := 0x01#8, pwmValue := s.buf[1], result := .ok }) ∨
    (s.buf[0] = 0x02#8 ∧ s.len.toNat = 1 + s.params.rsSize ∧
      t = { s with msgId := 0x02#8, rs := takeReply s.params s.buf s.rs, result := .ok }) ∨
    t = { s with result := .protocolFailure } := by
  by_cases setPwm : s.buf[0] = 0x01#8 ∧ s.len = 2#8
  · cases done.symm.trans (exec_decmsg_of_setPwm s running setPwm.1 setPwm.2)
    exact .inl ⟨setPwm.1, setPwm.2, rfl⟩
  by_cases reply : s.buf[0] = 0x02#8 ∧ s.len.toNat = 1 + s.params.rsSize
  · cases done.symm.trans (exec_decmsg_of_replyStatus s running reply.1 reply.2)
    exact .inr (.inl ⟨reply.1, reply.2, rfl⟩)
  · cases done.symm.trans (exec_decmsg_of_no_match s running setPwm reply)
    exact .inr (.inr rfl)

/-- Settles O30: the two variants, the fields of a `ReplyStatus` byte by byte. -/
theorem decmsgReadsTheMessage : Obligations.DecmsgReadsTheMessage := by
  refine fun s running => ⟨exec_decmsg_of_setPwm s running, fun reply length => ?replyStatus⟩
  exact ⟨_, exec_decmsg_of_replyStatus s running reply length,
    fun j h => getElem_takeReply s.params s.buf s.rs h, rfl⟩

/-- Settles O31: of the three things `DECMSG` can do, the discriminant and the result tell which one it was. -/
theorem decmsgFailureChangesOnlyResult : Obligations.DecmsgFailureChangesOnlyResult := by
  refine fun s running => ⟨exec_decmsg_of_no_match s running, fun t done => ?_⟩
  rcases exec_decmsg_cases running done with ⟨-, -, rfl⟩ | ⟨-, -, rfl⟩ | rfl
  · exact ⟨nofun, fun _ _ => rfl, fun _ => nofun⟩
  · exact ⟨nofun, fun _ => nofun, fun _ _ => rfl⟩
  · exact ⟨fun _ => rfl, nofun, nofun⟩

end Sys2Proof.Machine
end

section
/-! Messages there and back on one block (R170), and from block to block through a frame (R171). -/

namespace Sys2Proof.Machine

/-! ## On one block -/

/-- The wire size of a `ReplyStatus` fits in `LEN`. -/
theorem toNat_replyLength (p : Params) : (BitVec.ofNat 8 (1 + p.rsSize)).toNat = 1 + p.rsSize := by
  have := rsSize_le_twenty p
  exact Nat.mod_eq_of_lt (by omega)

/-- The field `RS[j]` stands at `BUF[1 + j]` (R161). -/
theorem getElem_putReply_field (p : Params) (rs : Vector Byte 20) (b : Vector Byte 32) {j : Nat} (h : j < 20)
    (field : j < p.rsSize) : (putReply p rs b)[1 + j] = rs[j] := by
  rw [getElem_putReply p rs b (by omega), if_neg (by omega), if_pos (by omega), Nat.add_sub_cancel_left, rsAt_eq rs h]

theorem takeReply_putReply (p : Params) (rs : Vector Byte 20) (b : Vector Byte 32) :
    takeReply p (putReply p rs b) rs = rs := by
  ext1 j h
  rw [getElem_takeReply p _ rs h]
  split
  · next field => exact getElem_putReply_field p rs b h field
  · rfl

theorem putReply_takeReply (p : Params) (rs : Vector Byte 20) (b : Vector Byte 32) (reply : b[0] = 0x02#8) :
    putReply p (takeReply p b rs) b = b := by
  ext1 j h
  have size := rsSize_le_twenty p
  rw [getElem_putReply p _ b h]
  split
  · next first => subst first; exact reply.symm
  · next later =>
    split
    · next field =>
      obtain ⟨k, rfl⟩ : ∃ k, j = 1 + k := ⟨j - 1, by omega⟩
      rw [Nat.add_sub_cancel_left, rsAt_eq _ (by omega), getElem_takeReply p b rs (by omega), if_pos (by omega)]
    · rfl

theorem putSetPwm_self (b : Vector Byte 32) (setPwm : b[0] = 0x01#8) : bufSet (bufSet b 0 0x01#8) 1 b[1] = b := by
  ext1 j h
  rw [getElem_putSetPwm b _ h]
  rcases j with _ | _ | j
  · exact setPwm.symm
  · rfl
  · rfl

/-- Settles O45: either command undoes the other, for each of the two variants. -/
theorem messageRoundTrip : Obligations.MessageRoundTrip := by
  refine ⟨fun s running known => ?there_and_back, fun s t running taken ok => ?rebuilt⟩
  case there_and_back =>
    rcases known with setPwm | reply
    · refine ⟨_, _, exec_encmsg_of_setPwm s running setPwm,
        exec_decmsg_of_setPwm _ running (getElem_putSetPwm _ _ (by decide)) rfl, rfl, setPwm.symm, ?_, rfl⟩
      exact getElem_putSetPwm s.buf s.pwmValue (by decide)
    · exact ⟨_, _, exec_encmsg_of_replyStatus s running reply,
        exec_decmsg_of_replyStatus _ running (getElem_putReply _ _ _ (by decide)) (toNat_replyLength s.params),
        rfl, reply.symm, rfl, takeReply_putReply s.params s.rs s.buf⟩
  case rebuilt =>
    rcases exec_decmsg_cases running taken with ⟨setPwm, length, rfl⟩ | ⟨reply, length, rfl⟩ | rfl
    · exact ⟨_, exec_encmsg_of_setPwm _ running rfl, rfl, length.symm, putSetPwm_self s.buf setPwm⟩
    · refine ⟨_, exec_encmsg_of_replyStatus _ running rfl, rfl, ?_, putReply_takeReply s.params s.rs s.buf reply⟩
      exact BitVec.eq_of_toNat_eq ((toNat_replyLength s.params).trans length.symm)
    · cases ok

/-! ## From block to block -/

/-- `ENCMSG` of a registered variant succeeds, and what it leaves can be framed by the same block. -/
theorem exec_encmsg_of_known {s : State} (running : s.halted = false) (known : s.msgId = 0x01#8 ∨ s.msgId = 0x02#8) :
    ∃ t : State, exec .encmsg s = .next t ∧ t.result = .ok ∧ t.halted = false ∧ t.params = s.params ∧
      t.len.toNat ≤ 31 := by
  rcases known with setPwm | reply
  · exact ⟨_, exec_encmsg_of_setPwm s running setPwm, rfl, running, rfl, (by decide : 2 ≤ 31)⟩
  · refine ⟨_, exec_encmsg_of_replyStatus s running reply, rfl, running, rfl, ?_⟩
    rw [toNat_replyLength]
    have := rsSize_le_twenty s.params
    omega

/-- `DECODE` neither halts the block nor changes its parameters (R42). -/
theorem exec_decode_keeps {s t : State} (done : exec .decode s = .next t) :
    t.halted = s.halted ∧ t.params = s.params := by
  obtain ⟨-, -, -, -, -, halt, -, -, -, -, -, -, -, params, -⟩ := writerTable .decode s t done
  exact ⟨by_contra fun changed => Instr.noConfusion (halt (.inl changed)), params⟩

/-- The message of one block, handed to another as the payload that `ENCMSG` built of it, is taken by `DECMSG`. -/
theorem exec_decmsg_of_payload {s t r : State} (running : s.halted = false) (running' : r.halted = false)
    (known : s.msgId = 0x01#8 ∨ s.msgId = 0x02#8) (typed : exec .encmsg s = .next t)
    (same_size : r.params.rsSize = s.params.rsSize) (length : r.len = t.len)
    (payload : ∀ (j : Nat) (h : j < 32), j < t.len.toNat → r.buf[j] = t.buf[j]) :
    ∃ u : State, exec .decmsg r = .next u ∧ u.result = .ok ∧ u.msgId = s.msgId ∧
      (s.msgId = 0x01#8 → u.pwmValue = s.pwmValue) ∧
      (s.msgId = 0x02#8 → ∀ (j : Nat) (h : j < 20), j < s.params.rsSize → u.rs[j] = s.rs[j]) := by
  rcases known with setPwm | reply
  · have other : s.msgId ≠ 0x02#8 := by rw [setPwm]; decide
    cases typed.symm.trans (exec_encmsg_of_setPwm s running setPwm)
    have discriminant : r.buf[0] = 0x01#8 :=
      (payload 0 (by decide) (by decide : 0 < 2)).trans (getElem_putSetPwm _ _ (by decide))
    have value : r.buf[1] = s.pwmValue :=
      (payload 1 (by decide) (by decide : 1 < 2)).trans (getElem_putSetPwm _ _ (by decide))
    exact ⟨_, exec_decmsg_of_setPwm r running' discriminant length, rfl, setPwm.symm, fun _ => value,
      fun reply => absurd reply other⟩
  · have other : s.msgId ≠ 0x01#8 := by rw [reply]; decide
    cases typed.symm.trans (exec_encmsg_of_replyStatus s running reply)
    have wire_size := toNat_replyLength s.params
    have size := rsSize_le_twenty s.params
    have arrived (j : Nat) (hj : j < 1 + s.params.rsSize) : r.buf[j] = (putReply s.params s.rs s.buf)[j] :=
      payload j (by omega) (hj.trans_eq wire_size.symm)
    have discriminant : r.buf[0] = 0x02#8 := (arrived 0 (by omega)).trans (getElem_putReply _ _ _ (by decide))
    have length' : r.len.toNat = 1 + r.params.rsSize := by rw [length, same_size]; exact wire_size
    refine ⟨_, exec_decmsg_of_replyStatus r running' discriminant length', rfl, reply.symm,
      fun setPwm => absurd setPwm other, fun _ j h field => ?_⟩
    calc (takeReply r.params r.buf r.rs)[j] = r.buf[1 + j] := by
          rw [getElem_takeReply _ _ _ h, if_pos (by omega)]
      _ = (putReply s.params s.rs s.buf)[1 + j] := arrived _ (by omega)
      _ = s.rs[j] := getElem_putReply_field s.params s.rs s.buf h field

/-- Settles O46: the frame is decoded to the payload that `ENCMSG` built (R145), and `DECMSG` takes that payload. -/
theorem pipelineDeliversTheMessage : Obligations.PipelineDeliversTheMessage := by
  intro s r running running' known same_key same_schema
  obtain ⟨s1, typed, -, running1, params1, fits⟩ := exec_encmsg_of_known running known
  have built := exec_encode_of_le s1 running1 fits
  refine ⟨s1, _, typed, built, rfl, fun same_len unchanged => ?_⟩
  have frame_length := received_length running1 fits built same_len
  obtain ⟨r1, decoded, ok, length, -, -, payload⟩ := frameRoundTrip s1 _ r _ running1 running' rfl fits built
    (by rw [params1, same_key]) same_len fun j h hj => unchanged j h (by rw [← same_len]; omega)
  obtain ⟨kept_running, kept_params⟩ := exec_decode_keeps decoded
  have same_size : r1.params.rsSize = s.params.rsSize := by
    rw [kept_params, Params.rsSize, same_schema, Params.rsSize]
  obtain ⟨r2, taken, delivered⟩ := exec_decmsg_of_payload running (kept_running.trans running') known typed same_size
    length payload
  exact ⟨r1, r2, decoded, ok, taken, delivered⟩

end Sys2Proof.Machine
end

section
/-! A throttle value on its way from one documented host to another (R187, R190, R199): what the host's bus sequences do
to its block, and what the send and the receive step make of it. -/

namespace Sys2Proof.Machine

/-! ## The host's bus sequences -/

section
variable (s : State)

/-- A write of the host to `CMD` runs the command (R22). -/
theorem exec_eq_hostWr_cmd (op : Byte) : exec (decodeCmd8 op) s = .next (s.hostWr 0x00#8 op) :=
  (writeToCmdExecutesItsCommand op s).symm

/-- A write of the host elsewhere stores, on a block that is not halted. -/
theorem State.hostWr_stores (running : s.halted = false) {a : Byte} {r : Reg} (at_a : regOf a = r) (other : r ≠ .cmd)
    (v : Byte) : s.hostWr a v = s.storeReg r v :=
  Host.Outcome.next.inj (exec_wr_stores s at_a other v running)

/-- The host's test of `RESULT` (R195). -/
theorem State.hostSucceeded_iff : s.hostSucceeded = true ↔ s.result = .ok := by
  have reads_result : s.busRead 0x03#8 = s.result.toByte := rfl
  rw [State.hostSucceeded, reads_result]
  cases s.result <;> decide

/-- The bytes of a string land in `BUF` from index `i` on, and nothing else changes (R98). -/
theorem State.hostLoadFrom_eq (running : s.halted = false) (i : Nat) (bs : List Byte) (fits : i + bs.length ≤ 32) :
    ∃ b : Vector Byte 32, s.hostLoadFrom i bs = s.setBuf b ∧
      ∀ (j : Nat) (h : j < 32), b[j] = if j < i then s.buf[j] else bs.getD (j - i) s.buf[j] := by
  induction bs generalizing i s with
  | nil => exact ⟨s.buf, rfl, fun j h => by simp⟩
  | cons x bs ih =>
    rw [List.length_cons] at fits
    have first : s.hostWr (BitVec.ofNat 8 (0x40 + i)) x = s.setBuf (s.buf.set i x) :=
      s.hostWr_stores running (regOf_buf (by omega)) nofun x
    obtain ⟨b, loaded, bytes⟩ := ih (s.setBuf (s.buf.set i x)) running (i + 1) (by omega)
    refine ⟨b, by rw [State.hostLoadFrom, first, loaded]; rfl, fun j h => ?_⟩
    rw [bytes j h, State.setBuf_buf, Vector.getElem_set]
    rcases lt_trichotomy j i with before | rfl | after
    · rw [if_pos (by omega), if_neg (by omega), if_pos before]
    · rw [if_pos (by omega), if_pos rfl, if_neg (by omega), Nat.sub_self, List.getD_cons_zero]
    · obtain ⟨k, rfl⟩ := Nat.exists_eq_add_of_lt after
      rw [if_neg (by omega), if_neg (by omega), if_neg (by omega), show i + k + 1 - (i + 1) = k by omega,
        show i + k + 1 - i = k + 1 by omega, List.getD_cons_succ]

/-- `LDBUF` of a string that fits: its bytes and its length (R98). -/
theorem State.hostLoad_eq (running : s.halted = false) (bs : List Byte) (fits : bs.length ≤ 32) :
    ∃ b : Vector Byte 32, s.hostLoad bs = (s.setBuf b).setLen (BitVec.ofNat 8 bs.length) ∧
      ∀ (j : Nat) (h : j < 32) (hj : j < bs.length), b[j] = bs[j] := by
  obtain ⟨b, loaded, bytes⟩ := s.hostLoadFrom_eq running 0 bs (by omega)
  refine ⟨b, ?state, fun j h hj => ?bytes⟩
  case state =>
    rw [State.hostLoad, List.take_of_length_le fits, loaded]
    exact (s.setBuf b).hostWr_stores running (r := .len) rfl nofun _
  case bytes => rw [bytes j h, if_neg (Nat.not_lt_zero j), Nat.sub_zero, List.getD_eq_getElem _ _ hj]

theorem State.length_hostFrame : s.hostFrame.length = s.len.toNat := by
  rw [State.hostFrame, List.length_map, List.length_range]
  rfl

theorem State.getElem_hostFrame {j : Nat} (h : j < 32) (hj : j < s.hostFrame.length) : s.hostFrame[j] = s.buf[j] := by
  simp only [State.hostFrame, List.getElem_map, List.getElem_range, State.busRead, regOf_buf h, State.readReg]

/-- The frame one host reads back from its block and another loads into its own arrives there whole (R171). -/
theorem State.hostLoad_hostFrame {r : State} (running : r.halted = false) (fits : s.len.toNat ≤ 32) :
    (r.hostLoad s.hostFrame).halted = false ∧ (r.hostLoad s.hostFrame).params = r.params ∧
      (r.hostLoad s.hostFrame).len = s.len ∧
      ∀ (j : Nat) (h : j < 32), j < s.len.toNat → (r.hostLoad s.hostFrame).buf[j] = s.buf[j] := by
  obtain ⟨b, loaded, bytes⟩ := r.hostLoad_eq running s.hostFrame (by rw [s.length_hostFrame]; exact fits)
  rw [loaded]
  refine ⟨running, rfl, ?length, fun j h hj => ?bytes⟩
  case length => rw [State.setLen_len, s.length_hostFrame, BitVec.ofNat_toNat, BitVec.setWidth_eq]
  case bytes =>
    have in_frame : j < s.hostFrame.length := by rw [s.length_hostFrame]; exact hj
    exact (bytes j h in_frame).trans (s.getElem_hostFrame h in_frame)

/-- The fields of a `SetPwm`, put in place by the host (R187). -/
theorem State.stage_setPwm (running : s.halted = false) (v : Byte) :
    (s.hostWr 0x10#8 0x01#8).hostWr 0x11#8 v = (s.setMsgId 0x01#8).setPwmValue v := by
  rw [s.hostWr_stores running (r := .msgId) rfl nofun]
  exact State.hostWr_stores (s.setMsgId 0x01#8) running (r := .pwmValue) rfl nofun v

/-- The send pipeline goes on to `ENCODE` when `ENCMSG` succeeded (R195). -/
theorem State.hostEncode_of_ok (ok : (s.hostWr 0x00#8 0x05#8).result = .ok) :
    s.hostEncode = (s.hostWr 0x00#8 0x05#8).hostWr 0x00#8 0x03#8 := by
  rw [State.hostEncode, (State.hostSucceeded_iff _).mpr ok, cond_true]

end

/-- O46 as two hosts perform it: the one encodes and reads its frame back, the other loads that frame and decodes. -/
theorem hostPipeline_delivers {s r : State} (running : s.halted = false) (running' : r.halted = false)
    (known : s.msgId = 0x01#8 ∨ s.msgId = 0x02#8) (same_key : r.params.key = s.params.key)
    (same_schema : r.params.schema = s.params.schema) :
    s.hostEncode.result = .ok ∧ ∃ t u : State, exec .decode (r.hostLoad s.hostEncode.hostFrame) = .next t ∧
      t.result = .ok ∧ exec .decmsg t = .next u ∧ u.result = .ok ∧ u.msgId = s.msgId ∧
      (s.msgId = 0x01#8 → u.pwmValue = s.pwmValue) := by
  obtain ⟨s1, typed, typed_ok, running1, -, fits⟩ := exec_encmsg_of_known running known
  cases typed.symm.trans (exec_eq_hostWr_cmd s 0x05#8)
  have built : exec .encode (s.hostWr 0x00#8 0x05#8) = .next s.hostEncode := by
    rw [s.hostEncode_of_ok typed_ok]
    exact exec_eq_hostWr_cmd _ 0x03#8
  have frame_length := received_length running1 fits built rfl
  obtain ⟨loaded_running, loaded_params, loaded_len, loaded_bytes⟩ :=
    s.hostEncode.hostLoad_hostFrame running' (by omega)
  obtain ⟨_, _, typed', built', ok, delivers⟩ := pipelineDeliversTheMessage s (r.hostLoad s.hostEncode.hostFrame)
    running loaded_running known (by rw [loaded_params, same_key]) (by rw [loaded_params, same_schema])
  cases typed.symm.trans typed'
  cases built.symm.trans built'
  obtain ⟨t, u, decoded, passes, taken, accepted, id, value, -⟩ := delivers loaded_len loaded_bytes
  exact ⟨ok, t, u, decoded, passes, taken, accepted, id, value⟩

/-! ## The steps of an iteration -/

section
variable (h : HostParams) (l : Link)

theorem Link.radioSend_sent (sendOk marked : Bool) :
    (l.radioSend sendOk marked).sent = l.sent ++ [⟨l.block.hostFrame, marked⟩] := by
  cases sendOk <;> rfl

theorem Link.radioSend_reports (sendOk marked : Bool) :
    (l.radioSend sendOk marked).reports = l.reports ++ (if sendOk then [] else [.ioFailure]) := by
  cases sendOk
  · rfl
  · exact (List.append_nil _).symm

/-- A staged message that the block encodes is handed to the radio (R190, R195). -/
theorem Link.sendStaged_of_ok (ok : l.block.hostEncode.result = .ok) (sendOk marked : Bool) :
    l.sendStaged sendOk marked = Link.radioSend sendOk marked { l with block := l.block.hostEncode } := by
  simp only [Link.sendStaged, (State.hostSucceeded_iff _).mpr ok, cond_true]

/-- A transmitter whose send is due stages the throttle value and sends it (R190). -/
theorem Link.periodicSend_of_due (transmitter : h.endpoint = .transmitter) {now : Nat}
    (due : h.periodSetPwm ≤ now - l.session.lastSentSetPwm) (throttle : Byte) (sendOk : Bool) :
    l.periodicSend h now throttle sendOk = Link.sendStaged sendOk false
      { l with
        session := { l.session with lastSentSetPwm := now }
        block := (l.block.hostWr 0x10#8 0x01#8).hostWr 0x11#8 throttle } := by
  simp only [Link.periodicSend, transmitter, rateLimit, if_pos due, if_true]

/-- A receiver whose block decodes the frame to a `SetPwm` accepts its value (R186, R187). -/
theorem Link.receive_accepts (receiver : h.endpoint = .receiver) (now : Nat) {bytes : List Byte} {t u : State}
    (decoded : exec .decode (l.block.hostLoad bytes) = .next t) (passes : t.result = .ok)
    (taken : exec .decmsg t = .next u) (accepted : u.result = .ok) (setPwm : u.msgId = 0x01#8) :
    AcceptsSetPwm now u.pwmValue l (l.receive h now (.frame bytes)) := by
  cases decoded.symm.trans (exec_eq_hostWr_cmd _ 0x04#8)
  cases taken.symm.trans (exec_eq_hostWr_cmd _ 0x06#8)
  rw [← State.hostSucceeded_iff] at passes accepted
  have reads_id (k : State) : k.busRead 0x10#8 = k.msgId := rfl
  simp only [Link.receive, Link.receiveMessage, Link.dispatch, passes, accepted, reads_id, setPwm, receiver, cond_true,
    if_true]
  exact ⟨rfl, rfl, rfl, rfl, rfl⟩

end

/-- Settles O60: the frame is the one the transmitter's block builds of the staged `SetPwm`, and the pipeline of the
two hosts delivers the value. -/
theorem throttleReachesTheActuator : Obligations.ThrottleReachesTheActuator := by
  intro ht hr tx rx sendAt recvAt v sendOk transmitter receiver due running running' same_key same_schema
  obtain ⟨sent_ok, t, u, decoded, passes, taken, accepted, id, value⟩ :=
    hostPipeline_delivers (s := (tx.block.setMsgId 0x01#8).setPwmValue v) running running' (.inl rfl) same_key
      same_schema
  have accepts := rx.receive_accepts hr receiver recvAt decoded passes taken accepted id
  rw [value rfl] at accepts
  rw [tx.periodicSend_of_due ht transmitter due, tx.block.stage_setPwm running, Link.sendStaged_of_ok]
  case ok => exact sent_ok
  exact ⟨_, Link.radioSend_sent _ sendOk false, Link.radioSend_reports _ sendOk false, accepts.actuator,
    accepts.lastValid⟩

end Sys2Proof.Machine
end

section
/-! The documented host's map from throttle to pulse width (R188), and what it does while no `SetPwm` arrives (R184,
R185). -/

namespace Sys2Proof.Machine

/-! ## The pulse width -/

theorem clamp_eq_max_min (x : Int) {lo hi : Int} (ordered : lo ≤ hi) : clamp x lo hi = max lo (min x hi) := by
  unfold clamp
  split
  · omega
  · split <;> omega

theorem clamp_mono {x y : Int} (le : x ≤ y) {lo hi : Int} (ordered : lo ≤ hi) : clamp x lo hi ≤ clamp y lo hi := by
  rw [clamp_eq_max_min x ordered, clamp_eq_max_min y ordered]
  exact max_le_max le_rfl (min_le_min le le_rfl)

/-- Truncating division by 255 is monotone across zero too, and so is the clamp after it. -/
theorem pwmMap_mono {v w : Int} (le : v ≤ w) : pwmMap v ≤ pwmMap w := by
  have interpolated : Int.tdiv ((v + 128) * 1000) 255 ≤ Int.tdiv ((w + 128) * 1000) 255 :=
    Int.tdiv_le_tdiv (by decide) (by omega)
  exact clamp_mono (by omega) (by decide)

/-- Settles O58: the clamp gives the range, `pwmMap_mono` the order, and evaluation the four values. -/
theorem pwmMapIsMonotoneInRange : Obligations.PwmMapIsMonotoneInRange :=
  ⟨fun _ => clamp_inRange _ 1000 2000 (by decide), fun _ _ => pwmMap_mono, by decide, by decide, by decide, by decide⟩

/-! ## Step 1 alone, through a silence -/

section
variable {h : HostParams} {l : Link} (receiver : h.endpoint = .receiver)
include receiver

/-- Once a silence has been reported the failsafe only forces the actuator (R184, R185). -/
theorem Link.failsafe_of_reported {now : Nat} (silent : h.failsafeTimeout < now - l.session.lastValidCommandTick)
    (reported : l.session.timeoutReported = true) :
    l.failsafe h now = { l with actuator := l.actuator ++ [h.neutralUs] } := by
  simp only [Link.failsafe, receiver, true_and, if_pos silent, reported, if_true]

/-- The first failsafe of a silence also reports it (R185). -/
theorem Link.failsafe_of_unreported {now : Nat} (silent : h.failsafeTimeout < now - l.session.lastValidCommandTick)
    (unreported : l.session.timeoutReported = false) :
    l.failsafe h now = Link.report .safetyTimeout
      { l with
        session := { l.session with timeoutReported := true }
        actuator := l.actuator ++ [h.neutralUs] } := by
  simp only [Link.failsafe, receiver, true_and, if_pos silent, unreported, Bool.false_eq_true, if_false]

theorem Link.foldl_failsafe_of_reported (nows : List Nat)
    (silent : ∀ now ∈ nows, h.failsafeTimeout < now - l.session.lastValidCommandTick)
    (reported : l.session.timeoutReported = true) :
    nows.foldl (fun l now => l.failsafe h now) l =
      { l with actuator := l.actuator ++ List.replicate nows.length h.neutralUs } := by
  induction nows generalizing l with
  | nil => rw [List.length_nil, List.replicate_zero, List.append_nil]; rfl
  | cons now nows ih =>
    obtain ⟨silent_now, silent_later⟩ := List.forall_mem_cons.mp silent
    have rest := ih (l := { l with actuator := l.actuator ++ [h.neutralUs] }) silent_later reported
    rw [List.foldl_cons, Link.failsafe_of_reported receiver silent_now reported, rest]
    simp only [List.length_cons, List.replicate_succ, List.append_assoc, List.singleton_append]

/-- A silence from its first failsafe on: the one report, and the actuator forced each time (R184, R185). -/
theorem Link.foldl_failsafe_of_unreported {nows : List Nat} (nonempty : nows ≠ [])
    (silent : ∀ now ∈ nows, h.failsafeTimeout < now - l.session.lastValidCommandTick)
    (unreported : l.session.timeoutReported = false) :
    nows.foldl (fun l now => l.failsafe h now) l = Link.report .safetyTimeout
      { l with
        session := { l.session with timeoutReported := true }
        actuator := l.actuator ++ List.replicate nows.length h.neutralUs } := by
  cases nows with
  | nil => exact absurd rfl nonempty
  | cons now nows =>
    obtain ⟨silent_now, silent_later⟩ := List.forall_mem_cons.mp silent
    have first := Link.failsafe_of_unreported receiver silent_now unreported
    have rest := Link.foldl_failsafe_of_reported (l := l.failsafe h now) receiver nows
      (by rw [first]; exact silent_later) (by rw [first]; rfl)
    rw [List.foldl_cons, rest, first]
    simp only [Link.report, List.length_cons, List.replicate_succ, List.append_assoc, List.singleton_append]

end

/-! ## Whole iterations, through a silence -/

section
variable {h : HostParams} {l : Link}

/-- The failsafe depends on nothing but what a silence is about. -/
theorem KeepsSilence.failsafe {l' : Link} (p : KeepsSilence l l') (now : Nat) :
    KeepsSilence (l.failsafe h now) (l'.failsafe h now) := by
  have actuator : l'.actuator ++ [h.neutralUs] = l.actuator ++ [h.neutralUs] := by rw [p.actuator]
  unfold Link.failsafe
  rw [p.lastValid, p.timeoutReported]
  split
  · cases reported : l.session.timeoutReported with
    | true => exact ⟨p.phase, p.lastValid, p.timeoutReported, actuator, p.count⟩
    | false =>
      refine ⟨p.phase, p.lastValid, rfl, actuator, ?count⟩
      simp only [Bool.false_eq_true, if_false, Link.report_reports, List.count_append, p.count]
  · exact p

theorem KeepsSilence.foldl_failsafe {l' : Link} (p : KeepsSilence l l') (nows : List Nat) :
    KeepsSilence (nows.foldl (fun l now => l.failsafe h now) l) (nows.foldl (fun l now => l.failsafe h now) l') := by
  induction nows generalizing l l' with
  | nil => exact p
  | cons now nows ih => exact ih (p.failsafe now)

theorem Link.failsafe_phase (now : Nat) : (l.failsafe h now).phase = l.phase := by
  unfold Link.failsafe
  split
  · cases l.session.timeoutReported <;> rfl
  · rfl

/-- An iteration that moves no command tick is, for the silence, its failsafe alone: a `SetPwm` accepted in it would have
moved the tick to `x.now`, from where no time has passed yet. -/
theorem Link.iterate_keepsSilence {x : LoopInputs}
    (silent : h.failsafeTimeout < x.now - l.session.lastValidCommandTick)
    (held : (l.iterate h x).session.lastValidCommandTick = l.session.lastValidCommandTick) :
    KeepsSilence (l.failsafe h x.now) (l.iterate h x) := by
  have sent := Link.periodicSend_keepsSilence h (Link.receive h x.now x.poll (l.failsafe h x.now)) x.now x.throttle
    x.sendOk
  have rest := sent.trans (Link.gather_keepsSilence h _ x.now x.refresh)
  rcases Link.receive_cases h (l.failsafe h x.now) x.now x.poll with same | ⟨b, accepted⟩
  · exact same.trans rest
  · have moved : l.session.lastValidCommandTick = x.now := held.symm.trans (rest.lastValid.trans accepted.lastValid)
    omega

/-- Iterations that move no command tick are, for the silence, their failsafes alone. -/
theorem Link.run_keepsSilence (xs : List LoopInputs) (looping : l.phase = .loop)
    (silent : ∀ x ∈ xs, h.failsafeTimeout < x.now - l.session.lastValidCommandTick)
    (held : ∀ k ≤ xs.length, (l.run h (xs.take k)).session.lastValidCommandTick = l.session.lastValidCommandTick) :
    KeepsSilence ((xs.map LoopInputs.now).foldl (fun l now => l.failsafe h now) l) (l.run h xs) := by
  induction xs generalizing l with
  | nil => exact .refl l
  | cons x xs ih =>
    obtain ⟨silent_now, silent_later⟩ := List.forall_mem_cons.mp silent
    have advance : l.advance h x = l.iterate h x := l.advance_of_loop h x looping
    have held_later : ∀ k ≤ xs.length,
        ((l.iterate h x).run h (xs.take k)).session.lastValidCommandTick = l.session.lastValidCommandTick := by
      intro k le
      rw [← advance]
      exact held (k + 1) (Nat.succ_le_succ le)
    have held_now : (l.iterate h x).session.lastValidCommandTick = l.session.lastValidCommandTick :=
      held_later 0 (Nat.zero_le _)
    have first := Link.iterate_keepsSilence silent_now held_now
    have rest := ih (l := l.iterate h x) (first.phase.trans ((l.failsafe_phase x.now).trans looping))
      (by rw [held_now]; exact silent_later) (by rw [held_now]; exact held_later)
    rw [Link.run_cons, advance]
    exact (first.foldl_failsafe _).trans rest

end

/-- Settles O59: step 1 alone by the state it leaves, and whole iterations because they leave the same as step 1 in
what the silence is about. -/
theorem failsafeReportsOncePerSilence : Obligations.FailsafeReportsOncePerSilence := by
  intro h l receiver unreported
  refine ⟨fun nows nonempty silent => ?step1, fun xs looping nonempty silent held => ?iterations⟩
  case step1 =>
    rw [Link.foldl_failsafe_of_unreported receiver nonempty silent unreported]
    exact ⟨rfl, rfl, rfl⟩
  case iterations =>
    have same := Link.run_keepsSilence xs looping silent held
    rw [Link.foldl_failsafe_of_unreported receiver (mt List.map_eq_nil_iff.mp nonempty)
      (List.forall_mem_map.mpr silent) unreported] at same
    refine ⟨same.timeoutReported, ?count, ?actuator⟩
    case count => rw [same.count, Link.report_reports, List.count_append, List.count_singleton_self]
    case actuator => rw [same.actuator, Link.report_actuator, List.length_map]

end Sys2Proof.Machine
end

section
/-! What locks the block and what does not (R231, R232), and the two commands that report (R215, R216, R231, R235). -/

namespace Sys2Proof.Machine

/-- Settles O17: every instruction but `RD` acts behind the halted lock. -/
theorem haltedBlockIgnoresWrites : Obligations.HaltedBlockIgnoresWrites := by
  intro i s halted not_rd
  rw [exec_eq_next]
  congr 1
  cases i with
  | rd a d => exact absurd rfl (not_rd a d)
  | wr a v => exact s.hostWrite_of_halted (fun s => s.doWr a v) halted
  | _ => exact s.hostWrite_of_halted _ halted

/-- Settles O19: `HALTED` stands in the row of `HALT` alone, and a tick event does not write it. -/
theorem onlyHaltHalts : Obligations.OnlyHaltHalts := by
  refine ⟨fun i s t running completes halts => ?host, fun s => s.tickEvent_keepsHostState.halted⟩
  case host =>
    obtain rfl : effectOf i s = t := by simpa [exec_eq_next] using completes
    exact (effectOf_writerRow s i).halt (.inl (by simp [halts, running]))

/-- Settles O32, by whether the block is `Idle`. -/
theorem reportIsAcceptedOrDropped : Obligations.ReportIsAcceptedOrDropped := by
  intro s running
  rw [exec_eq_next, effectOf, s.hostWrite_of_not_halted _ running]
  refine ⟨fun idle => ?accepted, fun announcing => ?dropped⟩
  case accepted => rw [s.doReport_of_idle idle]; rfl
  case dropped => rw [s.doReport_of_active announcing]; rfl

/-- Settles O33, by whether the report of the halt code is accepted. -/
theorem haltReportsAndLocks : Obligations.HaltReportsAndLocks := by
  intro s running
  rw [exec_eq_next, effectOf, s.hostWrite_of_not_halted _ running]
  refine ⟨fun idle => ?accepted, fun announcing => ?dropped⟩
  case accepted => rw [s.doHalt_of_idle idle]; rfl
  case dropped => rw [s.doHalt_of_active announcing]; rfl

end Sys2Proof.Machine
end

section
/-! The blink pattern (R213, R219, R220): a preamble, then one window of `BIT_STEPS` steps for each bit of the code. -/

namespace Sys2Proof.Machine

theorem pattern_of_preamble {p : Params} {step : Nat} (preamble : step < p.preLen) (code : Byte) :
    pattern p code step = p.prePattern.testBit step :=
  if_pos preamble

/-- Step `t` of window `k` shows bit `t` of the mask that bit `k` of the code selects. -/
theorem pattern_of_window {p : Params} {t : Nat} (inside : t < p.bitSteps) (code : Byte) (k : Nat) :
    pattern p code (p.preLen + k * p.bitSteps + t) =
      if code.getLsbD k then p.mask1.testBit t else p.mask0.testBit t := by
  have from_windows : p.preLen + k * p.bitSteps + t - p.preLen = t + k * p.bitSteps := by omega
  have window : (t + k * p.bitSteps) / p.bitSteps = k := by
    rw [Nat.add_mul_div_right _ _ (by omega), Nat.div_eq_of_lt inside, Nat.zero_add]
  have place : (t + k * p.bitSteps) % p.bitSteps = t := by
    rw [Nat.add_mul_mod_self_right, Nat.mod_eq_of_lt inside]
  rw [pattern, if_neg (by omega)]
  simp only [from_windows, window, place]

/-- Settles O47: `pattern_of_window` at every place of a window, its first, where both masks have a one, and its last,
where neither has. -/
theorem patternPlaysTheCode : Obligations.PatternPlaysTheCode := by
  intro p code valid
  have two := valid.bitSteps_two
  refine ⟨fun step preamble => pattern_of_preamble preamble code, fun k _ => ⟨?window, ?starts_lit, ?ends_dark⟩⟩
  case window => exact fun t inside => pattern_of_window inside code k
  case starts_lit =>
    have first := pattern_of_window (t := 0) (show 0 < p.bitSteps by omega) code k
    rwa [valid.mask0_low, valid.mask1_low, ite_self] at first
  case ends_dark =>
    have last := pattern_of_window (show p.bitSteps - 1 < p.bitSteps by omega) code k
    have place : p.preLen + (k + 1) * p.bitSteps - 1 = p.preLen + k * p.bitSteps + (p.bitSteps - 1) := by
      rw [Nat.succ_mul]; omega
    rwa [valid.mask0_high, valid.mask1_high, ite_self, ← place] at last

end Sys2Proof.Machine
end

section
/-! The tick event, case by case (R214, R217, R218, R221, R223, R233), and what it leaves unchanged. -/

namespace Sys2Proof.Machine

variable (s : State)

/-! ## One equation per case -/

theorem State.tickEvent_of_idle (idle : s.active = false) :
    s.tickEvent = ((s.setTickCnt (s.tickCnt + 1#32)).setLed false).rearm := by
  rw [State.tickEvent_eq, idle]; rfl

theorem State.tickEvent_of_announcing (announcing : s.active = true) :
    s.tickEvent = (s.setTickCnt (s.tickCnt + 1#32)).latchStart.playStep.rearm := by
  rw [State.tickEvent_eq, announcing]; rfl

theorem State.tickEvent_of_unstarted (announcing : s.active = true) (unstarted : s.started = false) :
    s.tickEvent = ((s.setTickCnt (s.tickCnt + 1#32)).setStart (s.tickCnt + 1#32)).playStep.rearm := by
  have latched := (s.setTickCnt (s.tickCnt + 1#32)).latchStart_of_unstarted unstarted
  rw [s.tickEvent_of_announcing announcing, latched, State.setTickCnt_tickCnt]

theorem State.tickEvent_of_started (announcing : s.active = true) (started : s.started = true) :
    s.tickEvent = (s.setTickCnt (s.tickCnt + 1#32)).playStep.rearm := by
  have latched := (s.setTickCnt (s.tickCnt + 1#32)).latchStart_of_started started
  rw [s.tickEvent_of_announcing announcing, latched]

/-- The first tick event of an announcement shows step 0 (R217). -/
theorem State.tickEvent_starts (announcing : s.active = true) (unstarted : s.started = false)
    (pattern_pos : 0 < s.params.totalSteps) : s.tickEvent =
      ((s.setTickCnt (s.tickCnt + 1#32)).setStart (s.tickCnt + 1#32)).setLed (pattern s.params s.annCode 0) := by
  have due : ((s.setTickCnt (s.tickCnt + 1#32)).setStart (s.tickCnt + 1#32)).stepIndex = 0 := by
    simp [State.stepIndex, State.elapsed]
  rw [s.tickEvent_of_unstarted announcing unstarted, State.playStep_of_inside _ (by rw [due]; exact pattern_pos), due]
  exact State.rearm_of_active _ announcing

section
variable {s} (announcing : s.active = true) (started : s.started = true) (step_pos : 1 ≤ s.params.stepDiv) {e : Nat}
  (elapsed : (s.setTickCnt (s.tickCnt + 1#32)).elapsed = e)
include announcing started step_pos elapsed

/-- A later one, inside the pattern, shows the step that is due (R218). -/
theorem State.tickEvent_shows (inside : e < s.params.patternTicks) : s.tickEvent =
    (s.setTickCnt (s.tickCnt + 1#32)).setLed (pattern s.params s.annCode (e / s.params.stepDiv)) := by
  subst elapsed
  have step_due : (s.setTickCnt (s.tickCnt + 1#32)).stepIndex < s.params.totalSteps :=
    (stepIndex_lt_iff s.params step_pos _).mpr inside
  rw [s.tickEvent_of_started announcing started, State.playStep_of_inside _ step_due]
  exact State.rearm_of_active _ announcing

/-- Past the pattern it completes the announcement, and then re-arms a halted block (R221, R233). -/
theorem State.tickEvent_completes (past : s.params.patternTicks ≤ e) :
    s.tickEvent = (s.setTickCnt (s.tickCnt + 1#32)).complete.rearm := by
  subst elapsed
  have no_step_due : s.params.totalSteps ≤ (s.setTickCnt (s.tickCnt + 1#32)).stepIndex :=
    Nat.not_lt.mp (mt (stepIndex_lt_iff s.params step_pos _).mp (Nat.not_lt.mpr past))
  rw [s.tickEvent_of_started announcing started, State.playStep_of_past _ no_step_due]

end

/-- Settles O48, one clause for each of those equations and, where the block is left `Idle`, for the re-arm. -/
theorem tickEventByCases : Obligations.TickEventByCases := by
  rintro s c e rfl elapsed valid
  refine ⟨?idle, ?idle_halted, ?starts, ?shows, ?completes, ?rearms⟩
  case idle =>
    intro idle running
    rw [s.tickEvent_of_idle idle]
    exact State.rearm_of_not_halted _ running
  case idle_halted =>
    intro idle halted
    rw [s.tickEvent_of_idle idle]
    exact State.rearm_of_halted_idle _ halted idle
  case starts => exact fun announcing unstarted => s.tickEvent_starts announcing unstarted (totalSteps_pos valid)
  case shows =>
    exact fun announcing started inside =>
      State.tickEvent_shows announcing started valid.stepDiv_pos elapsed.symm inside
  case completes =>
    intro announcing started past running
    rw [State.tickEvent_completes announcing started valid.stepDiv_pos elapsed.symm past]
    exact State.rearm_of_not_halted _ running
  case rearms =>
    intro announcing started past halted
    rw [State.tickEvent_completes announcing started valid.stepDiv_pos elapsed.symm past]
    exact State.rearm_of_halted_idle _ halted rfl

/-! ## What it leaves unchanged -/

/-- No part of a tick event but the first writes `TICKCNT`, and none but the re-arm writes `ANN_CODE` (R214). -/
structure KeepsCountAndCode (s t : State) : Prop where
  tickCnt : t.tickCnt = s.tickCnt
  annCode : t.annCode = s.annCode

theorem State.latchStart_keepsCountAndCode : KeepsCountAndCode s s.latchStart := by
  cases h : s.started
  · rw [s.latchStart_of_unstarted h]; exact ⟨rfl, rfl⟩
  · rw [s.latchStart_of_started h]; exact ⟨rfl, rfl⟩

theorem State.playStep_keepsCountAndCode : KeepsCountAndCode s s.playStep := by
  unfold State.playStep; split <;> exact ⟨rfl, rfl⟩

theorem State.rearm_tickCnt : s.rearm.tickCnt = s.tickCnt := by
  rcases s.rearm_cases with ⟨_, _, h⟩ | h <;> rw [h]; rfl

/-- All of a tick event but the re-arm counts, and leaves the code. -/
theorem State.tickEvent_of_counted : ∃ u : State, s.tickEvent = u.rearm ∧
    KeepsCountAndCode (s.setTickCnt (s.tickCnt + 1#32)) u := by
  cases h : s.active
  · exact ⟨_, s.tickEvent_of_idle h, rfl, rfl⟩
  · have latched := (s.setTickCnt (s.tickCnt + 1#32)).latchStart_keepsCountAndCode
    have played := (s.setTickCnt (s.tickCnt + 1#32)).latchStart.playStep_keepsCountAndCode
    exact ⟨_, s.tickEvent_of_announcing h, played.tickCnt.trans latched.tickCnt,
      played.annCode.trans latched.annCode⟩

theorem State.tickEvent_tickCnt : s.tickEvent.tickCnt = s.tickCnt + 1#32 := by
  obtain ⟨u, tick, kept⟩ := s.tickEvent_of_counted
  rw [tick, u.rearm_tickCnt]
  exact kept.tickCnt

/-- Only a halted block changes its code in a tick event (R233). -/
theorem State.tickEvent_annCode (running : s.halted = false) : s.tickEvent.annCode = s.annCode := by
  obtain ⟨u, tick, kept⟩ := s.tickEvent_of_counted
  have u_running : u.halted = false := by
    rw [← u.rearm_keepsHostState.halted, ← tick, s.tickEvent_keepsHostState.halted, running]
  rw [tick, u.rearm_of_not_halted u_running]
  exact kept.annCode

/-- Settles O49: the step is the tick event, which counts and keeps what the host wrote. -/
theorem tickTouchesOnlyTheSchedule : Obligations.TickTouchesOnlyTheSchedule := by
  intro s es t inputs completes
  obtain rfl : (s.setInputs es).tickEvent = t := by
    rw [step_of_inputs_cons inputs] at completes
    exact Host.Outcome.next.inj completes
  have kept := (s.setInputs es).tickEvent_keepsHostState
  exact ⟨State.tickEvent_tickCnt _, kept.arg, kept.len, kept.result, kept.crc, kept.halted, kept.haltCode, kept.msgId,
    kept.pwmValue, kept.rs, kept.buf, kept.params, kept.inputs, kept.rdata, kept.resets,
    (s.setInputs es).tickEvent_annCode⟩

/-- Settles O56: the tie between the pin and the schedule survives every kind of event. -/
theorem stepKeepsPinAndSchedule : Obligations.StepKeepsPinAndSchedule :=
  fun _ _ shown completes => shown.step completes

end Sys2Proof.Machine
end

section
/-! An announcement along a run (R221, R225, R226, R233, R234): how far it has played is the number of its tick events
so far, whatever the host does between them. -/

namespace Sys2Proof.Machine

/-! ## How far an announcement has played -/

/-- `k` tick events have played the announcement of `code` so far: with none it is not started, and the one numbered
`e + 1` showed the step due after `e` elapsed ticks (R217, R218). -/
structure Playing (p : Params) (code : Byte) (k : Nat) (s : State) : Prop where
  params : s.params = p
  active : s.active = true
  annCode : s.annCode = code
  unstarted : k = 0 → s.started = false
  started : ∀ e : Nat, k = e + 1 → s.started = true ∧ s.elapsed = e ∧ s.led = pattern p code (e / p.stepDiv)

theorem State.JustAccepted.playing {s : State} {code : Byte} (h : s.JustAccepted code) :
    Playing s.params code 0 s := by
  obtain ⟨active, unstarted, annCode⟩ := h
  exact ⟨rfl, active, annCode, fun _ => unstarted, fun _ first => by cases first⟩

section
variable {p : Params} {code : Byte} {k : Nat} {s : State}

theorem Playing.setInputs (h : Playing p code k s) (es : List Event) : Playing p code k (s.setInputs es) :=
  ⟨h.params, h.active, h.annCode, h.unstarted, h.started⟩

/-- No host access interferes: a report is dropped, and nothing else could touch the announcement (R215, R225). -/
theorem Playing.host (h : Playing p code k s) (w : BusWord) : Playing p code k (effectOf (decodeBus17 w) s) := by
  have kept := effectOf_keepsTickState s (decodeBus17 w)
  rcases (effectOf_hostAnnounces s w).schedule with ⟨active, started, annCode⟩ | ⟨idle, _⟩
  · refine ⟨kept.params.trans h.params, active.trans h.active, annCode.trans h.annCode, ?_, ?_⟩
    · rw [started]; exact h.unstarted
    · rw [started, State.elapsed, kept.tickCnt, kept.startTick, kept.led]; exact h.started
  · exact absurd h.active (by simp [idle])

/-- A tick event plays on while the pattern lasts. -/
theorem Playing.tick (valid : p.Valid) (h : Playing p code k s) (inside : k < p.patternTicks) :
    Playing p code (k + 1) s.tickEvent := by
  obtain ⟨rfl, active, rfl, unstarted, started⟩ := h
  cases k with
  | zero =>
    rw [s.tickEvent_starts active (unstarted rfl) (totalSteps_pos valid)]
    refine ⟨rfl, active, rfl, by simp, fun e first => ?_⟩
    obtain rfl : e = 0 := by omega
    exact ⟨rfl, by simp [State.elapsed], by simp⟩
  | succ e =>
    obtain ⟨started, elapsed, _⟩ := started e rfl
    have counted := s.elapsed_count elapsed (inside.trans valid.pattern_fits)
    rw [State.tickEvent_shows active started valid.stepDiv_pos counted inside]
    refine ⟨rfl, active, rfl, by simp, fun e' next => ?_⟩
    obtain rfl : e' = e + 1 := by omega
    exact ⟨started, counted, rfl⟩

theorem patternTicks_pos (valid : p.Valid) : 0 < p.patternTicks :=
  Nat.mul_pos (totalSteps_pos valid) valid.stepDiv_pos

/-- The tick event after the whole pattern ends it. -/
theorem Playing.ends (valid : p.Valid) (h : Playing p code p.patternTicks s) :
    s.tickEvent = (s.setTickCnt (s.tickCnt + 1#32)).complete.rearm := by
  obtain ⟨rfl, active, _, _, started⟩ := h
  obtain ⟨e, last⟩ := Nat.exists_eq_add_one.mpr (patternTicks_pos valid)
  obtain ⟨started, elapsed, _⟩ := started e last
  have counted := s.elapsed_count elapsed (last ▸ valid.pattern_fits)
  exact State.tickEvent_completes active started valid.stepDiv_pos counted last.le

/-- A block that is not halted is `Idle` then (R221). -/
theorem Playing.completes (valid : p.Valid) (h : Playing p code p.patternTicks s) (running : s.halted = false) :
    s.tickEvent = (s.setTickCnt (s.tickCnt + 1#32)).complete := by
  rw [h.ends valid]; exact State.rearm_of_not_halted _ running

/-- A halted one reports its halt code in the same tick event (R233). -/
theorem Playing.rearms (valid : p.Valid) (h : Playing p code p.patternTicks s) (halted : s.halted = true) :
    s.tickEvent = (s.setTickCnt (s.tickCnt + 1#32)).complete.accept s.haltCode := by
  rw [h.ends valid]; exact State.rearm_of_halted_idle _ halted rfl

end

/-! ## One announcement, to its end -/

/-- The announcement of `code` has played `n` tick events, if it has that many. -/
def PlaysUpTo (p : Params) (code : Byte) (n : Nat) (s : State) : Prop := n ≤ p.patternTicks → Playing p code n s

theorem PlaysUpTo.host {p : Params} {code : Byte} (n : Nat) (s : State) (w : BusWord) (es : List Event)
    (h : PlaysUpTo p code n s) : PlaysUpTo p code n (afterEvent (.host w) (s.setInputs es)) :=
  fun inside => ((h inside).setInputs es).host w

theorem PlaysUpTo.tick {p : Params} {code : Byte} (valid : p.Valid) (n : Nat) (s : State) (es : List Event)
    (h : PlaysUpTo p code n s) : PlaysUpTo p code (n + 1) (afterEvent .tick (s.setInputs es)) :=
  fun inside => ((h (Nat.le_of_succ_le inside)).setInputs es).tick valid inside

/-- Settles O51: along the run the announcement has played as many tick events as there were. -/
theorem announcementPlaysInFull : Obligations.AnnouncementPlaysInFull := by
  intro s code es valid accepted no_reset some_tick inside
  obtain ⟨t, run, played⟩ := run_keeps PlaysUpTo.host (PlaysUpTo.tick valid) es 0 (s.setInputs es) no_reset rfl
    (fun _ => accepted.playing.setInputs es)
  rw [Nat.zero_add] at played
  have playing := played inside
  obtain ⟨e, count⟩ := Nat.exists_eq_add_one.mpr some_tick
  refine ⟨t, run, playing.active, playing.annCode, ?_⟩
  rw [count, Nat.add_sub_cancel]
  exact (playing.started e count).2.2

theorem afterEvent_inputs (e : Event) (s : State) : (afterEvent e s).inputs = s.inputs := by
  cases e with
  | host w => exact (effectOf_keepsTickState s (decodeBus17 w)).inputs
  | tick => exact s.tickEvent_keepsHostState.inputs
  | reset => rfl

/-- `run_keeps` for a run that goes on to one more event: that event finds a state with the property. -/
theorem run_keeps_then {P : Nat → State → Prop}
    (host : ∀ n s w es, P n s → P n (afterEvent (.host w) (s.setInputs es)))
    (tick : ∀ n s es, P n s → P (n + 1) (afterEvent .tick (s.setInputs es))) (last : Event)
    (es : List Event) (n : Nat) (s : State) (no_reset : Event.reset ∉ es) (h : P n s) :
    ∃ u, P (n + tickCount es) u ∧
      core.run (es.length + 1) (s.setInputs (es ++ [last])) = .next (afterEvent last (u.setInputs [])) := by
  induction es generalizing n s with
  | nil => exact ⟨s, h, run_setInputs_cons 0 last []⟩
  | cons e es ih =>
    obtain ⟨not_reset, no_reset⟩ := List.ne_and_not_mem_of_not_mem_cons no_reset
    have goes_on : (afterEvent e (s.setInputs (es ++ [last]))).inputs = es ++ [last] := afterEvent_inputs e _
    have performed : P (n + [e].count .tick) (afterEvent e (s.setInputs (es ++ [last]))) := by
      cases e with
      | host w => exact host n s w _ h
      | tick => exact tick n s _ h
      | reset => exact absurd rfl not_reset
    obtain ⟨u, hu, run⟩ := ih _ _ no_reset performed
    refine ⟨u, ?_, ?_⟩
    · have count : tickCount (e :: es) = [e].count .tick + tickCount es := by
        rw [tickCount, tickCount, ← List.count_append, List.singleton_append]
      rwa [count, ← Nat.add_assoc]
    · rw [State.setInputs_eq_self goes_on] at run
      exact (run_setInputs_cons _ e _).trans run

/-- Settles O52: the last tick event finds the pattern played in full and completes it. -/
theorem announcementCompletes : Obligations.AnnouncementCompletes := by
  intro s code es valid accepted no_reset in_full
  obtain ⟨u, played, run⟩ := run_keeps_then PlaysUpTo.host (PlaysUpTo.tick valid) .tick es 0 s no_reset
    (fun _ => accepted.playing)
  rw [Nat.zero_add, in_full] at played
  have playing := (played le_rfl).setInputs []
  refine ⟨_, run, ?_⟩
  cases halted : u.halted
  · rw [afterEvent, playing.completes valid halted]
    exact ⟨rfl, fun _ => ⟨rfl, rfl, playing.annCode⟩, fun h => absurd (halted.symm.trans h) (by decide)⟩
  · rw [afterEvent, playing.rearms valid halted]
    exact ⟨rfl, fun h => absurd (halted.symm.trans h) (by decide), fun _ => ⟨rfl, rfl, rfl⟩⟩

/-! ## The halted pattern -/

/-- After `n` tick events of a block halted with `code`: it is in round `n / (patternTicks + 1)` of the pattern, and a
round that just ended left the pin dark. -/
structure PlaysForEver (p : Params) (code : Byte) (n : Nat) (s : State) : Prop where
  halted : s.halted = true
  haltCode : s.haltCode = code
  playing : Playing p code (n % (p.patternTicks + 1)) s
  dark : 0 < n → n % (p.patternTicks + 1) = 0 → s.led = false

theorem PlaysForEver.host {p : Params} {code : Byte} (n : Nat) (s : State) (w : BusWord) (es : List Event)
    (h : PlaysForEver p code n s) : PlaysForEver p code n (afterEvent (.host w) (s.setInputs es)) := by
  obtain ⟨halted, haltCode⟩ := (effectOf_hostAnnounces (s.setInputs es) w).halt h.halted
  have led := (effectOf_keepsTickState (s.setInputs es) (decodeBus17 w)).led
  exact ⟨halted, haltCode.trans h.haltCode, (h.playing.setInputs es).host w, fun later ended =>
    led.trans (h.dark later ended)⟩

/-- Counting modulo `N + 1` goes on by one or starts again. -/
theorem succ_mod_succ_cases (n N : Nat) :
    (n % (N + 1) < N ∧ (n + 1) % (N + 1) = n % (N + 1) + 1) ∨ (n % (N + 1) = N ∧ (n + 1) % (N + 1) = 0) := by
  have le : n % (N + 1) ≤ N := Nat.lt_succ_iff.mp (Nat.mod_lt n N.succ_pos)
  rcases Nat.lt_or_eq_of_le le with lt | eq
  · refine .inl ⟨lt, ?_⟩
    rw [← Nat.mod_add_mod, Nat.mod_eq_of_lt (Nat.succ_lt_succ lt)]
  · exact .inr ⟨eq, Nat.succ_mod_succ_eq_zero_iff.mpr eq⟩

/-- A tick event plays on within a round, and after its last step completes the pattern and re-arms (R233). -/
theorem PlaysForEver.tick {p : Params} {code : Byte} (valid : p.Valid) (n : Nat) (s : State) (es : List Event)
    (h : PlaysForEver p code n s) : PlaysForEver p code (n + 1) (afterEvent .tick (s.setInputs es)) := by
  have kept := (s.setInputs es).tickEvent_keepsHostState
  have playing := h.playing.setInputs es
  rcases succ_mod_succ_cases n p.patternTicks with ⟨inside, next⟩ | ⟨last, next⟩
  · refine ⟨kept.halted.trans h.halted, kept.haltCode.trans h.haltCode, ?_, by simp [next]⟩
    rw [next]
    exact playing.tick valid inside
  · rw [last] at playing
    have rearmed := playing.rearms valid h.halted
    refine ⟨kept.halted.trans h.halted, kept.haltCode.trans h.haltCode, ?_, fun _ _ => ?_⟩
    · rw [next, afterEvent, rearmed]
      exact ⟨playing.params, rfl, h.haltCode, fun _ => rfl, fun _ first => by cases first⟩
    · rw [afterEvent, rearmed]; rfl

/-- Settles O53: along the run the block is in the round, and at the place in it, that the number of tick events
says. -/
theorem haltedPatternIsPeriodic : Obligations.HaltedPatternIsPeriodic := by
  rintro s es e valid halted accepted no_reset some_tick rfl
  have armed : PlaysForEver s.params s.haltCode 0 (s.setInputs es) :=
    ⟨halted, rfl, by rw [Nat.zero_mod]; exact accepted.playing.setInputs es, by simp⟩
  obtain ⟨t, run, h⟩ :=
    run_keeps PlaysForEver.host (PlaysForEver.tick valid) es 0 (s.setInputs es) no_reset rfl armed
  obtain ⟨m, count⟩ := Nat.exists_eq_add_one.mpr some_tick
  rw [Nat.zero_add, count] at h
  refine ⟨t, run, h.halted, h.haltCode, ?_⟩
  rw [count, Nat.add_sub_cancel]
  rcases succ_mod_succ_cases m s.params.patternTicks with ⟨inside, next⟩ | ⟨last, next⟩
  · rw [if_pos inside]
    exact (h.playing.started _ next).2.2
  · rw [if_neg (by omega)]
    exact h.dark m.succ_pos next

end Sys2Proof.Machine
end

section
/-! A tick event and a host access that meet in no field (R214, R254): which of the two comes first does not show. -/

namespace Sys2Proof.Machine

/-- `s` with the fields a tick event may write taken from `u` (R214). -/
def State.withSchedule (s u : State) : State :=
  { s with active := u.active, started := u.started, led := u.led, annCode := u.annCode, tickCnt := u.tickCnt,
           startTick := u.startTick }

/-! ## A tick event depends on those fields, the halt and the parameters -/

section
variable {s u : State}

theorem State.latchStart_withSchedule : (s.withSchedule u).latchStart = s.withSchedule u.latchStart := by
  cases h : u.started
  · rw [u.latchStart_of_unstarted h, (s.withSchedule u).latchStart_of_unstarted h]; rfl
  · rw [u.latchStart_of_started h, (s.withSchedule u).latchStart_of_started h]

theorem State.playStep_withSchedule (params : u.params = s.params) :
    (s.withSchedule u).playStep = s.withSchedule u.playStep := by
  have due : (s.withSchedule u).stepIndex = u.stepIndex := by
    rw [State.stepIndex, State.stepIndex, params]; rfl
  rcases Nat.lt_or_ge u.stepIndex u.params.totalSteps with inside | past
  · rw [u.playStep_of_inside inside, (s.withSchedule u).playStep_of_inside (by rw [due]; exact params ▸ inside), due,
      params]
    rfl
  · rw [u.playStep_of_past past, (s.withSchedule u).playStep_of_past (by rw [due]; exact params ▸ past)]
    rfl

theorem State.rearm_withSchedule (halted : u.halted = s.halted) (haltCode : u.haltCode = s.haltCode) :
    (s.withSchedule u).rearm = s.withSchedule u.rearm := by
  cases h : u.active
  · cases hh : u.halted
    · rw [u.rearm_of_not_halted hh, (s.withSchedule u).rearm_of_not_halted (halted ▸ hh)]
    · rw [u.rearm_of_halted_idle hh h, (s.withSchedule u).rearm_of_halted_idle (halted ▸ hh) h, haltCode]; rfl
  · rw [u.rearm_of_active h, (s.withSchedule u).rearm_of_active h]

/-- A tick event does to the schedule what it does on any block with the same parameters and the same halt. -/
theorem State.tickEvent_withSchedule (params : u.params = s.params) (halted : u.halted = s.halted)
    (haltCode : u.haltCode = s.haltCode) : (s.withSchedule u).tickEvent = s.withSchedule u.tickEvent := by
  cases h : u.active
  · rw [u.tickEvent_of_idle h, (s.withSchedule u).tickEvent_of_idle h]
    exact State.rearm_withSchedule (u := (u.setTickCnt (u.tickCnt + 1#32)).setLed false) halted haltCode
  · have latched := (u.setTickCnt (u.tickCnt + 1#32)).latchStart_keepsHostState
    have played := (u.setTickCnt (u.tickCnt + 1#32)).latchStart.playStep_keepsHostState
    have counted : (s.withSchedule u).setTickCnt ((s.withSchedule u).tickCnt + 1#32) =
        s.withSchedule (u.setTickCnt (u.tickCnt + 1#32)) := rfl
    rw [u.tickEvent_of_announcing h, (s.withSchedule u).tickEvent_of_announcing h, counted,
      State.latchStart_withSchedule, State.playStep_withSchedule (latched.params.trans params),
      State.rearm_withSchedule (played.halted.trans (latched.halted.trans halted))
        (played.haltCode.trans (latched.haltCode.trans haltCode))]

end

/-! ## A codec access depends on none of them -/

section
variable (s u : State)

theorem State.ite_withSchedule (c : Prop) [Decidable c] (t e u : State) :
    (if c then t else e).withSchedule u = if c then t.withSchedule u else e.withSchedule u :=
  apply_ite (State.withSchedule · u) c t e

theorem State.doCrc8_withSchedule : (s.withSchedule u).doCrc8 = s.doCrc8.withSchedule u := by
  unfold State.doCrc8
  rw [State.ite_withSchedule]
  rfl

theorem State.doCipher_withSchedule : (s.withSchedule u).doCipher = s.doCipher.withSchedule u := by
  unfold State.doCipher
  rw [State.ite_withSchedule]
  rfl

theorem State.doEncode_withSchedule : (s.withSchedule u).doEncode = s.doEncode.withSchedule u := by
  unfold State.doEncode
  rw [State.ite_withSchedule]
  rfl

theorem State.doDecode_withSchedule : (s.withSchedule u).doDecode = s.doDecode.withSchedule u := by
  unfold State.doDecode
  dsimp only
  rw [State.ite_withSchedule, State.ite_withSchedule]
  rfl

theorem State.doEncmsg_withSchedule : (s.withSchedule u).doEncmsg = s.doEncmsg.withSchedule u := by
  unfold State.doEncmsg
  rw [State.ite_withSchedule, State.ite_withSchedule]
  rfl

theorem State.doDecmsg_withSchedule : (s.withSchedule u).doDecmsg = s.doDecmsg.withSchedule u := by
  unfold State.doDecmsg
  dsimp only
  rw [State.ite_withSchedule, State.ite_withSchedule]
  rfl

theorem State.storeReg_withSchedule (r : Reg) (v : Byte) :
    (s.withSchedule u).storeReg r v = (s.storeReg r v).withSchedule u := by
  cases r <;> rfl

/-- No address but those of `ANN_STATUS` and `ANN_CODE` shows the schedule (R21). -/
theorem State.busRead_withSchedule {a : Byte} (not_status : a ≠ 0x05#8) (not_code : a ≠ 0x06#8) :
    (s.withSchedule u).busRead a = s.busRead a := by
  have other_status : regOf a ≠ .annStatus := fun h => not_status (regOf_injective (b := 0x05#8) h (by simp [h]))
  have other_code : regOf a ≠ .annCode := fun h => not_code (regOf_injective (b := 0x06#8) h (by simp [h]))
  unfold State.busRead
  cases h : regOf a with
  | annStatus => exact absurd h other_status
  | annCode => exact absurd h other_code
  | _ => rfl

/-- The halted lock does not depend on the schedule either. -/
theorem State.hostWrite_withSchedule {f : State → State} (h : f (s.withSchedule u) = (f s).withSchedule u) :
    (s.withSchedule u).hostWrite f = (s.hostWrite f).withSchedule u := by
  cases lock : s.halted
  · rw [s.hostWrite_of_not_halted f lock, (s.withSchedule u).hostWrite_of_not_halted f lock, h]
  · rw [s.hostWrite_of_halted f lock, (s.withSchedule u).hostWrite_of_halted f lock]

theorem isCodec_decodeCmd8 (op : Byte) : isCodec (decodeCmd8 op) = decide (op ≠ 0x07#8 ∧ op ≠ 0x08#8) := by
  revert op; decide

/-- What a codec access amounts to is a codec access. -/
theorem isCodec_canonical (i : Instr) : isCodec (canonical i) = isCodec i := by
  cases i with
  | wr a v =>
    by_cases h : a = 0x00#8
    · subst h; rw [canonical_wr_cmd, isCodec_decodeCmd8]; simp [isCodec]
    · rw [canonical_wr_of_ne h]
  | _ => rfl

/-- The codec commands, one by one. -/
theorem codecCommand_withSchedule {c : Instr} (command : isCommand c = true) (codec : isCodec c = true) :
    effectOf c (s.withSchedule u) = (effectOf c s).withSchedule u := by
  cases c with
  | rd a d => cases command
  | wr a v => cases command
  | nop => exact s.hostWrite_withSchedule u rfl
  | crc8 => exact s.hostWrite_withSchedule u (s.doCrc8_withSchedule u)
  | cipher => exact s.hostWrite_withSchedule u (s.doCipher_withSchedule u)
  | encode => exact s.hostWrite_withSchedule u (s.doEncode_withSchedule u)
  | decode => exact s.hostWrite_withSchedule u (s.doDecode_withSchedule u)
  | encmsg => exact s.hostWrite_withSchedule u (s.doEncmsg_withSchedule u)
  | decmsg => exact s.hostWrite_withSchedule u (s.doDecmsg_withSchedule u)
  | report => cases codec
  | halt => cases codec
  | illegal op => exact s.hostWrite_withSchedule u rfl

/-- A codec access does the same whatever the schedule is. -/
theorem effectOf_withSchedule {i : Instr} (codec : isCodec i = true) :
    effectOf i (s.withSchedule u) = (effectOf i s).withSchedule u := by
  cases i with
  | rd a d =>
    obtain ⟨not_status, not_code⟩ : a ≠ 0x05#8 ∧ a ≠ 0x06#8 := of_decide_eq_true codec
    simp only [effectOf, State.doRd, s.busRead_withSchedule u not_status not_code]
    rfl
  | wr a v =>
    by_cases h : a = 0x00#8
    · subst h
      rw [← isCodec_canonical, canonical_wr_cmd] at codec
      rw [← effectOf_canonical, ← effectOf_canonical s, canonical_wr_cmd]
      exact codecCommand_withSchedule s u (isCommand_decodeCmd8 v) codec
    · refine s.hostWrite_withSchedule u (f := fun s => s.doWr a v) ?_
      rw [State.doWr_of_ne _ a v h, State.doWr_of_ne _ a v h, s.storeReg_withSchedule]
  | report => cases codec
  | halt => cases codec
  | _ => exact codecCommand_withSchedule s u rfl codec

/-- A codec access leaves the schedule and the halt as they are (R42). -/
theorem effectOf_keepsSchedule {i : Instr} (codec : isCodec i = true) :
    (effectOf i s).withSchedule s = effectOf i s ∧ (effectOf i s).halted = s.halted ∧
      (effectOf i s).haltCode = s.haltCode := by
  have row := effectOf_writerRow s i
  have kept := effectOf_keepsTickState s i
  rw [← isCodec_canonical] at codec
  have no_report : canonical i ≠ .report := by intro h; rw [h] at codec; cases codec
  have no_halt : canonical i ≠ .halt := by intro h; rw [h] at codec; cases codec
  have schedule := mt row.schedule (by simp [no_report, no_halt])
  have halt := mt row.halt no_halt
  push Not at schedule halt
  obtain ⟨active, started, annCode⟩ := schedule
  refine ⟨?_, halt⟩
  rw [State.withSchedule, ← active, ← started, ← annCode, ← kept.led, ← kept.tickCnt, ← kept.startTick]

/-- A codec access and a tick event can change places. -/
theorem effectOf_tickEvent {i : Instr} (codec : isCodec i = true) :
    effectOf i s.tickEvent = (effectOf i s).tickEvent := by
  obtain ⟨schedule, halted, haltCode⟩ := effectOf_keepsSchedule s codec
  have params := (effectOf_keepsTickState s i).params
  calc effectOf i s.tickEvent
      = effectOf i (s.withSchedule s.tickEvent) := by rw [← State.tickEvent_withSchedule rfl rfl rfl]; rfl
    _ = (effectOf i s).withSchedule s.tickEvent := effectOf_withSchedule s s.tickEvent codec
    _ = ((effectOf i s).withSchedule s).tickEvent :=
        (State.tickEvent_withSchedule params.symm halted.symm haltCode.symm).symm
    _ = (effectOf i s).tickEvent := by rw [schedule]

end

/-- Settles O50: both orders complete, with the same state. -/
theorem ticksCommuteWithCodec : Obligations.TicksCommuteWithCodec := by
  intro i s codec
  refine ⟨effectOf i s, exec_eq_next i s, ?_⟩
  rw [exec_eq_next, effectOf_tickEvent s codec]

end Sys2Proof.Machine
end

section
/-! What a failure leaves behind (R250, R252, R257): the block always goes on, and only the integrity failure of R144
changes more than `RESULT`. -/

namespace Sys2Proof.Machine

/-- Settles O9, by whether an event waits. -/
theorem everyStepCompletes : Obligations.EveryStepCompletes := by
  intro s
  cases waiting : s.inputs with
  | nil => exact ⟨s, step_of_inputs_nil waiting⟩
  | cons e es => exact ⟨afterEvent e (s.setInputs es), step_of_inputs_cons waiting⟩

/-- What R252 lets a command that leads from `s` to `t` do: succeed, discard a frame (R144), or change `RESULT`
alone. -/
def FailsPrecisely (s t : State) : Prop :=
  t.result = .ok ∨ t.result = .integrityFailure ∨ t = { s with result := t.result }

section
variable (s : State)

theorem FailsPrecisely.ok (u : State) : FailsPrecisely s (u.setResult .ok) := .inl rfl

theorem FailsPrecisely.raise (c : ResultCode) : FailsPrecisely s (s.raise c) := .inr (.inr rfl)

theorem State.doCrc8_failsPrecisely : FailsPrecisely s s.doCrc8 := by
  rcases Nat.lt_or_ge 32 s.len.toNat with long | fits
  · rw [s.doCrc8_of_gt long]; exact .raise s _
  · rw [s.doCrc8_of_le fits]; exact .ok s _

theorem State.doCipher_failsPrecisely : FailsPrecisely s s.doCipher := by
  by_cases bad : s.len.toNat = 0 ∨ 32 < s.len.toNat
  · rw [s.doCipher_of_bad_length bad]; exact .raise s _
  · rw [s.doCipher_of_length (by omega) (by omega)]; exact .ok s _

theorem State.doEncode_failsPrecisely : FailsPrecisely s s.doEncode := by
  rcases Nat.lt_or_ge 31 s.len.toNat with full | room
  · rw [s.doEncode_of_ge full]; exact .raise s _
  · rw [s.doEncode_of_le room]; exact .ok s _

/-- The mismatch is the one failure that changes more than `RESULT`, with a code of its own (R144). -/
theorem State.doDecode_failsPrecisely : FailsPrecisely s s.doDecode := by
  by_cases bad : s.len.toNat = 0 ∨ 32 < s.len.toNat
  · rw [s.doDecode_of_bad_length bad]; exact .raise s _
  · by_cases passes : crc8 (bufTake (cipher s.params.key s.len.toNat s.buf) (s.len.toNat - 1)) =
        bufAt (cipher s.params.key s.len.toNat s.buf) (s.len.toNat - 1)
    · rw [s.doDecode_of_match (by omega) (by omega) rfl passes]; exact .ok s _
    · rw [s.doDecode_of_mismatch (by omega) (by omega) rfl passes]; exact .inr (.inl rfl)

theorem State.doEncmsg_failsPrecisely : FailsPrecisely s s.doEncmsg := by
  by_cases setPwm : s.msgId = 0x01#8
  · rw [s.doEncmsg_of_setPwm setPwm]; exact .ok s _
  · by_cases reply : s.msgId = 0x02#8
    · rw [s.doEncmsg_of_replyStatus reply]; exact .ok s _
    · rw [s.doEncmsg_of_unknown setPwm reply]; exact .raise s _

theorem State.doDecmsg_failsPrecisely : FailsPrecisely s s.doDecmsg := by
  by_cases setPwm : s.buf[0] = 0x01#8 ∧ s.len.toNat = 2
  · rw [s.doDecmsg_of_setPwm setPwm.1 setPwm.2]; exact .ok s _
  · by_cases reply : s.buf[0] = 0x02#8 ∧ s.len.toNat = 1 + s.params.rsSize
    · rw [s.doDecmsg_of_replyStatus reply.1 reply.2]; exact .ok s _
    · rw [s.doDecmsg_of_no_match setPwm reply]; exact .raise s _

theorem FailsPrecisely.hostWrite {f : State → State} (precise : FailsPrecisely s (f s)) :
    FailsPrecisely s (s.hostWrite f) := by
  rcases s.hostWrite_cases f with ⟨_, ignored⟩ | ⟨_, performed⟩
  · rw [ignored]; exact .inr (.inr rfl)
  · rw [performed]; exact precise

/-- Every command, halted or not. -/
theorem command_failsPrecisely {c : Instr} (command : isCommand c = true) : FailsPrecisely s (effectOf c s) := by
  cases c with
  | rd a d => cases command
  | wr a v => cases command
  | nop => exact .hostWrite s (.ok s s)
  | crc8 => exact s.doCrc8_failsPrecisely.hostWrite
  | cipher => exact s.doCipher_failsPrecisely.hostWrite
  | encode => exact s.doEncode_failsPrecisely.hostWrite
  | decode => exact s.doDecode_failsPrecisely.hostWrite
  | encmsg => exact s.doEncmsg_failsPrecisely.hostWrite
  | decmsg => exact s.doDecmsg_failsPrecisely.hostWrite
  | report => exact .hostWrite s (.ok s (s.report s.arg))
  | halt => exact .hostWrite s (.ok s ((s.setHaltCode s.arg).report s.arg).setHalted)
  | illegal op => exact .hostWrite s (.raise s .illegalCommand)

end

/-- Settles O35: the three results are neither success nor the discarded frame of R144. -/
theorem failuresArePrecise : Obligations.FailuresArePrecise := by
  intro i s t command _ completes failed
  obtain rfl : effectOf i s = t := by simpa [exec_eq_next] using completes
  rcases command_failsPrecisely s command with ok | discarded | precise
  · simp [ok] at failed
  · simp [discarded] at failed
  · exact precise

end Sys2Proof.Machine
end

section
/-! A frame on its way to a block with another key (R299). Each deciphered byte is the plain frame's XORed with the XOR
`d` of the two masks, and the checksum is linear, so the payload cancels out of the comparison of `DECODE`. -/

namespace Sys2Proof.Machine

/-- A buffer whose first `n` bytes are another's XORed with `d` has its checksum XORed with that of `d` (R114 b). -/
theorem crc8_bufTake_xor {b p : Vector Byte 32} {n : Nat} (hn : n ≤ 32) {d : Nat → Byte}
    (differ : ∀ (j : Nat) (h : j < 32), j < n → b[j] = p[j] ^^^ d j) :
    crc8 (bufTake b n) = crc8 (bufTake p n) ^^^ crc8 ((List.range n).map d) := by
  have bytes : bufTake b n = List.zipWith (· ^^^ ·) (bufTake p n) ((List.range n).map d) := by
    apply List.ext_getElem
    · simp [length_bufTake _ hn]
    · intro j hj _
      rw [length_bufTake b hn] at hj
      rw [List.getElem_zipWith, getElem_bufTake b hn hj, getElem_bufTake p hn hj, List.getElem_map,
        List.getElem_range, differ j (by omega) hj]
  rw [bytes, crc8IsLinear _ _ (by simp [length_bufTake p hn])]

/-- A byte ciphered with one mask and deciphered with another is the plain one XORed with the XOR of the masks. -/
theorem getElem_deciphered_xor {s a r : State} (running : s.halted = false) (fits : s.len.toNat ≤ 31)
    (built : exec .encode s = .next a) (same_len : r.len = a.len) {j : Nat} (h : j < 32) (frame : j ≤ s.len.toNat)
    (unchanged : r.buf[j] = a.buf[j]) :
    r.deciphered[j] = s.plainFrame[j] ^^^
      (cipherMask s.params.key (s.len.toNat + 1) j ^^^ cipherMask r.params.key (s.len.toNat + 1) j) := by
  have sent : a.buf = cipher s.params.key (s.len.toNat + 1) s.plainFrame := by
    cases built.symm.trans (exec_encode_of_le s running fits)
    rfl
  have positive : 1 ≤ s.len.toNat + 1 := Nat.le_add_left 1 _
  have in_frame : j < s.len.toNat + 1 := Nat.lt_succ_of_le frame
  simp only [State.deciphered, received_length running fits built same_len, getElem_cipher _ positive _ h,
    if_pos in_frame, unchanged, sent, BitVec.xor_assoc]

/-- Settles O44: the payload's checksum stands on both sides of the comparison of `DECODE`, which leaves the checksum of
`d` over the payload against `d` at the trailer. -/
theorem keyMismatchDependsOnLengthOnly : Obligations.KeyMismatchDependsOnLengthOnly := by
  rintro s a r n d running running' rfl fits built same_len unchanged masks
  have length := received_length running fits built same_len
  have trailer_fits : s.len.toNat < 32 := Nat.lt_succ_of_le fits
  have frame (j : Nat) (h : j < 32) (hj : j ≤ s.len.toNat) : r.deciphered[j] = s.plainFrame[j] ^^^ d j := by
    rw [masks, getElem_deciphered_xor running fits built same_len h hj (unchanged j h hj)]
  have payload (j : Nat) (h : j < 32) (hj : j < s.len.toNat) : r.deciphered[j] = s.buf[j] ^^^ d j := by
    rw [frame j h hj.le, s.getElem_plainFrame_of_lt h hj]
  have compared : crc8 (bufTake r.deciphered s.len.toNat) = r.deciphered[s.len.toNat] ↔
      crc8 ((List.range s.len.toNat).map d) = d s.len.toNat := by
    rw [crc8_bufTake_xor trailer_fits.le payload, frame _ trailer_fits le_rfl,
      s.getElem_plainFrame_trailer trailer_fits, BitVec.xor_right_inj]
  by_cases passes : crc8 ((List.range s.len.toNat).map d) = d s.len.toNat
  · exact ⟨_, exec_decode_of_match r running' length trailer_fits (compared.mpr passes),
      fun _ => ⟨rfl, BitVec.ofNat_toNat .., payload⟩, fun fails => absurd passes fails⟩
  · exact ⟨_, exec_decode_of_mismatch r running' length trailer_fits (mt compared.mp passes),
      fun agrees => absurd agrees passes, fun _ => rfl⟩

end Sys2Proof.Machine
end
